-- ==== Sys2Proof/Config.lean ====
section
/-!
DEFINITION. What an implementation fixes (R5, R6, R7, R298). The spec leaves no value open after which an
instruction goes on, so there is no free value here.
-/

namespace Sys2Proof

/-- `NOP32_EFFECTS` (R298, D11): what the 32-bit NOP does for the constants 0, 2, 3 and 4. -/
inductive Nop32Effects where
  /-- The instruction is a reserved encoding: the model faults. The spec's default. -/
  | refuse
  /-- No side effect: only the pc advances. -/
  | none
  /-- The side effect of the 16-bit NOP with the same constant. -/
  | as16
  deriving DecidableEq, Repr

/-- The sizes the manual leaves to the implementation (R5, R6, R7) and the parameter of R298. -/
structure Config where
  /-- `NREGS`: how many general registers there are (R5). -/
  nregs : Nat
  /-- `IMEM_WORDS`: how many words of code memory exist, at addresses 0 upward (R6). -/
  imemWords : Nat
  /-- `DMEM_BYTES`: how many bytes of data memory exist, at addresses 0 upward (R7). -/
  dmemBytes : Nat
  /-- `NOP32_EFFECTS` (R298). -/
  nop32 : Nop32Effects
  deriving DecidableEq, Repr

/-- The ranges of R5, R6 and R7. -/
abbrev Config.wf (c : Config) : Prop :=
  (4 ≤ c.nregs ∧ c.nregs ≤ 64) ∧ (1 ≤ c.imemWords ∧ c.imemWords ≤ 2 ^ 24) ∧
    (1 ≤ c.dmemBytes ∧ c.dmemBytes ≤ 2 ^ 16)

/-- The configuration of `State.reset`. Every size is at its greatest value: DESIGN CHOICE, unsafe (entry 7), the
spec gives the sizes no default. `NOP32_EFFECTS` has the default that R298 gives it, `refuse` (entry 8). -/
def Config.standard : Config :=
  { nregs := 64, imemWords := 2 ^ 24, dmemBytes := 2 ^ 16, nop32 := .refuse }

end Sys2Proof
end

