-- ==== Sys2Proof/Word.lean ====
section
/-!
DEFINITION. The machine's word types (R10, R20, R24, R32, R33).
-/

namespace Sys2Proof

/-- A 16-bit word: the content of a general register, or one word of code memory (R20, R32). -/
abbrev Word := BitVec 16

/-- A byte of data memory (R33). -/
abbrev Byte := BitVec 8

/-- A word address into code memory; the width of the program counter (R24). -/
abbrev CodeAddr := BitVec 24

/-- A byte address into data memory (R33). -/
abbrev DataAddr := BitVec 16

/-- A register number as a 32-bit instruction names it, R0 to R63 (R22). -/
abbrev RegNum := BitVec 6

/-- A register number as a 16-bit instruction names it, R0 to R7 (R22). -/
abbrev ShortReg := BitVec 3

end Sys2Proof
end

