-- ==== Sys2Proof/Syntax.lean ====
section
/-!
DEFINITION. The abstract syntax: one constructor per row of spec/opcode_table.json.
A constructor's name is the row's mnemonic, its addressing mode where it has one (`Post`, `Pre`) and its
length. Its arguments stand in the order of the assembler syntax (R99); `off` is the signed constant S,
`imm` the unsigned constant I, and both are the bits of the encoded field (R92, R93). The constant of
the immediate shifts is the stored field, one less than the shift amount (R94).
-/

namespace Sys2Proof

/-- An instruction of AAP. -/
inductive Instr where
  -- 16-bit ALU instructions (40_alu16.md)
  /-- `NOP Rd,I`, 16 bits (R120). -/
  | nop16 (d : ShortReg) (imm : BitVec 6)
  /-- `ADD Rd,Ra,Rb`, 16 bits (R121). -/
  | add16 (d a b : ShortReg)
  /-- `SUB Rd,Ra,Rb`, 16 bits (R122). -/
  | sub16 (d a b : ShortReg)
  /-- `AND Rd,Ra,Rb`, 16 bits (R123). -/
  | and16 (d a b : ShortReg)
  /-- `OR Rd,Ra,Rb`, 16 bits (R124). -/
  | or16 (d a b : ShortReg)
  /-- `XOR Rd,Ra,Rb`, 16 bits (R125). -/
  | xor16 (d a b : ShortReg)
  /-- `ASR Rd,Ra,Rb`, 16 bits (R126). -/
  | asr16 (d a b : ShortReg)
  /-- `LSL Rd,Ra,Rb`, 16 bits (R127). -/
  | lsl16 (d a b : ShortReg)
  /-- `LSR Rd,Ra,Rb`, 16 bits (R128). -/
  | lsr16 (d a b : ShortReg)
  /-- `MOV Rd,Ra`, 16 bits (R129). -/
  | mov16 (d a : ShortReg)
  /-- `ADDI Rd,Ra,I`, 16 bits (R130). -/
  | addi16 (d a : ShortReg) (imm : BitVec 3)
  /-- `SUBI Rd,Ra,I`, 16 bits (R131). -/
  | subi16 (d a : ShortReg) (imm : BitVec 3)
  /-- `ASRI Rd,Ra,I`, 16 bits (R132). -/
  | asri16 (d a : ShortReg) (imm : BitVec 3)
  /-- `LSLI Rd,Ra,I`, 16 bits (R133). -/
  | lsli16 (d a : ShortReg) (imm : BitVec 3)
  /-- `LSRI Rd,Ra,I`, 16 bits (R134). -/
  | lsri16 (d a : ShortReg) (imm : BitVec 3)
  /-- `MOVI Rd,I`, 16 bits (R135). -/
  | movi16 (d : ShortReg) (imm : BitVec 6)
  -- 16-bit load/store instructions (41_loadstore16.md)
  /-- `LDB Rd,(Ra,S)`, 16 bits (R140). -/
  | ldb16 (d a : ShortReg) (off : BitVec 3)
  /-- `LDW Rd,(Ra,S)`, 16 bits (R141). -/
  | ldw16 (d a : ShortReg) (off : BitVec 3)
  /-- `LDB Rd,(Ra+,S)`, 16 bits (R142). -/
  | ldbPost16 (d a : ShortReg) (off : BitVec 3)
  /-- `LDW Rd,(Ra+,S)`, 16 bits (R143). -/
  | ldwPost16 (d a : ShortReg) (off : BitVec 3)
  /-- `LDB Rd,(-Ra,S)`, 16 bits (R144). -/
  | ldbPre16 (d a : ShortReg) (off : BitVec 3)
  /-- `LDW Rd,(-Ra,S)`, 16 bits (R145). -/
  | ldwPre16 (d a : ShortReg) (off : BitVec 3)
  /-- `STB (Rd,S),Ra`, 16 bits (R146). -/
  | stb16 (d : ShortReg) (off : BitVec 3) (a : ShortReg)
  /-- `STW (Rd,S),Ra`, 16 bits (R147). -/
  | stw16 (d : ShortReg) (off : BitVec 3) (a : ShortReg)
  /-- `STB (Rd+,S),Ra`, 16 bits (R148). -/
  | stbPost16 (d : ShortReg) (off : BitVec 3) (a : ShortReg)
  /-- `STW (Rd+,S),Ra`, 16 bits (R149). -/
  | stwPost16 (d : ShortReg) (off : BitVec 3) (a : ShortReg)
  /-- `STB (-Rd,S),Ra`, 16 bits (R150). -/
  | stbPre16 (d : ShortReg) (off : BitVec 3) (a : ShortReg)
  /-- `STW (-Rd,S),Ra`, 16 bits (R151). -/
  | stwPre16 (d : ShortReg) (off : BitVec 3) (a : ShortReg)
  -- 16-bit branch/jump instructions (42_branch16.md)
  /-- `BRA S`, 16 bits (R160). -/
  | bra16 (off : BitVec 9)
  /-- `BAL S,Rb`, 16 bits (R161). -/
  | bal16 (off : BitVec 6) (b : ShortReg)
  /-- `BEQ S,Ra,Rb`, 16 bits (R162). -/
  | beq16 (off : BitVec 3) (a b : ShortReg)
  /-- `BNE S,Ra,Rb`, 16 bits (R163). -/
  | bne16 (off : BitVec 3) (a b : ShortReg)
  /-- `BLTS S,Ra,Rb`, 16 bits (R164). -/
  | blts16 (off : BitVec 3) (a b : ShortReg)
  /-- `BLES S,Ra,Rb`, 16 bits (R165). -/
  | bles16 (off : BitVec 3) (a b : ShortReg)
  /-- `BLTU S,Ra,Rb`, 16 bits (R166). -/
  | bltu16 (off : BitVec 3) (a b : ShortReg)
  /-- `BLEU S,Ra,Rb`, 16 bits (R167). -/
  | bleu16 (off : BitVec 3) (a b : ShortReg)
  /-- `JMP Rd`, 16 bits (R168). -/
  | jmp16 (d : ShortReg)
  /-- `JAL Rd,Rb`, 16 bits (R169). -/
  | jal16 (d b : ShortReg)
  /-- `JEQ Rd,Ra,Rb`, 16 bits (R170). -/
  | jeq16 (d a b : ShortReg)
  /-- `JNE Rd,Ra,Rb`, 16 bits (R171). -/
  | jne16 (d a b : ShortReg)
  /-- `JLTS Rd,Ra,Rb`, 16 bits (R172). -/
  | jlts16 (d a b : ShortReg)
  /-- `JLES Rd,Ra,Rb`, 16 bits (R173). -/
  | jles16 (d a b : ShortReg)
  /-- `JLTU Rd,Ra,Rb`, 16 bits (R174). -/
  | jltu16 (d a b : ShortReg)
  /-- `JLEU Rd,Ra,Rb`, 16 bits (R175). -/
  | jleu16 (d a b : ShortReg)
  -- 16-bit miscellaneous instructions (43_misc16.md)
  /-- `RTE Rd`, 16 bits (R180). -/
  | rte16 (d : ShortReg)
  -- 32-bit ALU instructions (44_alu32.md)
  /-- `NOP Rd,I`, 32 bits (R185). -/
  | nop32 (d : RegNum) (imm : BitVec 12)
  /-- `ADD Rd,Ra,Rb`, 32 bits (R186). -/
  | add32 (d a b : RegNum)
  /-- `SUB Rd,Ra,Rb`, 32 bits (R187). -/
  | sub32 (d a b : RegNum)
  /-- `AND Rd,Ra,Rb`, 32 bits (R188). -/
  | and32 (d a b : RegNum)
  /-- `OR Rd,Ra,Rb`, 32 bits (R189). -/
  | or32 (d a b : RegNum)
  /-- `XOR Rd,Ra,Rb`, 32 bits (R190). -/
  | xor32 (d a b : RegNum)
  /-- `ASR Rd,Ra,Rb`, 32 bits (R191). -/
  | asr32 (d a b : RegNum)
  /-- `LSL Rd,Ra,Rb`, 32 bits (R192). -/
  | lsl32 (d a b : RegNum)
  /-- `LSR Rd,Ra,Rb`, 32 bits (R193). -/
  | lsr32 (d a b : RegNum)
  /-- `MOV Rd,Ra`, 32 bits (R194). -/
  | mov32 (d a : RegNum)
  /-- `ADDI Rd,Ra,I`, 32 bits (R195). -/
  | addi32 (d a : RegNum) (imm : BitVec 10)
  /-- `SUBI Rd,Ra,I`, 32 bits (R196). -/
  | subi32 (d a : RegNum) (imm : BitVec 10)
  /-- `ASRI Rd,Ra,I`, 32 bits (R197). -/
  | asri32 (d a : RegNum) (imm : BitVec 6)
  /-- `LSLI Rd,Ra,I`, 32 bits (R198). -/
  | lsli32 (d a : RegNum) (imm : BitVec 6)
  /-- `LSRI Rd,Ra,I`, 32 bits (R199). -/
  | lsri32 (d a : RegNum) (imm : BitVec 6)
  /-- `MOVI Rd,I`, 32 bits (R200). -/
  | movi32 (d : RegNum) (imm : BitVec 16)
  /-- `ADDC Rd,Ra,Rb`, 32 bits (R201). -/
  | addc32 (d a b : RegNum)
  /-- `SUBC Rd,Ra,Rb`, 32 bits (R202). -/
  | subc32 (d a b : RegNum)
  /-- `ANDI Rd,Ra,I`, 32 bits (R203). -/
  | andi32 (d a : RegNum) (imm : BitVec 9)
  /-- `ORI Rd,Ra,I`, 32 bits (R204). -/
  | ori32 (d a : RegNum) (imm : BitVec 9)
  /-- `XORI Rd,Ra,I`, 32 bits (R205). -/
  | xori32 (d a : RegNum) (imm : BitVec 9)
  -- 32-bit load/store instructions (45_loadstore32.md)
  /-- `LDB Rd,(Ra,S)`, 32 bits (R210). -/
  | ldb32 (d a : RegNum) (off : BitVec 10)
  /-- `LDW Rd,(Ra,S)`, 32 bits (R211). -/
  | ldw32 (d a : RegNum) (off : BitVec 10)
  /-- `LDB Rd,(Ra+,S)`, 32 bits (R212). -/
  | ldbPost32 (d a : RegNum) (off : BitVec 10)
  /-- `LDW Rd,(Ra+,S)`, 32 bits (R213). -/
  | ldwPost32 (d a : RegNum) (off : BitVec 10)
  /-- `LDB Rd,(-Ra,S)`, 32 bits (R214). -/
  | ldbPre32 (d a : RegNum) (off : BitVec 10)
  /-- `LDW Rd,(-Ra,S)`, 32 bits (R215). -/
  | ldwPre32 (d a : RegNum) (off : BitVec 10)
  /-- `STB (Rd,S),Ra`, 32 bits (R216). -/
  | stb32 (d : RegNum) (off : BitVec 10) (a : RegNum)
  /-- `STW (Rd,S),Ra`, 32 bits (R217). -/
  | stw32 (d : RegNum) (off : BitVec 10) (a : RegNum)
  /-- `STB (Rd+,S),Ra`, 32 bits (R218). -/
  | stbPost32 (d : RegNum) (off : BitVec 10) (a : RegNum)
  /-- `STW (Rd+,S),Ra`, 32 bits (R219). -/
  | stwPost32 (d : RegNum) (off : BitVec 10) (a : RegNum)
  /-- `STB (-Rd,S),Ra`, 32 bits (R220). -/
  | stbPre32 (d : RegNum) (off : BitVec 10) (a : RegNum)
  /-- `STW (-Rd,S),Ra`, 32 bits (R221). -/
  | stwPre32 (d : RegNum) (off : BitVec 10) (a : RegNum)
  -- 32-bit branch/jump instructions (46_branch32.md)
  /-- `BRA S`, 32 bits (R230). -/
  | bra32 (off : BitVec 22)
  /-- `BAL S,Rb`, 32 bits (R231). -/
  | bal32 (off : BitVec 16) (b : RegNum)
  /-- `BEQ S,Ra,Rb`, 32 bits (R232). -/
  | beq32 (off : BitVec 10) (a b : RegNum)
  /-- `BNE S,Ra,Rb`, 32 bits (R233). -/
  | bne32 (off : BitVec 10) (a b : RegNum)
  /-- `BLTS S,Ra,Rb`, 32 bits (R234). -/
  | blts32 (off : BitVec 10) (a b : RegNum)
  /-- `BLES S,Ra,Rb`, 32 bits (R235). -/
  | bles32 (off : BitVec 10) (a b : RegNum)
  /-- `BLTU S,Ra,Rb`, 32 bits (R236). -/
  | bltu32 (off : BitVec 10) (a b : RegNum)
  /-- `BLEU S,Ra,Rb`, 32 bits (R237). -/
  | bleu32 (off : BitVec 10) (a b : RegNum)
  /-- `JMP Rd`, 32 bits (R238). -/
  | jmp32 (d : RegNum)
  /-- `JAL Rd,Rb`, 32 bits (R239). -/
  | jal32 (d b : RegNum)
  /-- `JEQ Rd,Ra,Rb`, 32 bits (R240). -/
  | jeq32 (d a b : RegNum)
  /-- `JNE Rd,Ra,Rb`, 32 bits (R241). -/
  | jne32 (d a b : RegNum)
  /-- `JLTS Rd,Ra,Rb`, 32 bits (R242). -/
  | jlts32 (d a b : RegNum)
  /-- `JLES Rd,Ra,Rb`, 32 bits (R243). -/
  | jles32 (d a b : RegNum)
  /-- `JLTU Rd,Ra,Rb`, 32 bits (R244). -/
  | jltu32 (d a b : RegNum)
  /-- `JLEU Rd,Ra,Rb`, 32 bits (R245). -/
  | jleu32 (d a b : RegNum)
  /-- `JMPL Rd`, 32 bits (R246). -/
  | jmpl32 (d : RegNum)
  /-- `JALL Rd,Rb`, 32 bits (R247). -/
  | jall32 (d b : RegNum)
  /-- `JEQL Rd,Ra,Rb`, 32 bits (R248). -/
  | jeql32 (d a b : RegNum)
  /-- `JNEL Rd,Ra,Rb`, 32 bits (R249). -/
  | jnel32 (d a b : RegNum)
  /-- `JLTSL Rd,Ra,Rb`, 32 bits (R250). -/
  | jltsl32 (d a b : RegNum)
  /-- `JLESL Rd,Ra,Rb`, 32 bits (R251). -/
  | jlesl32 (d a b : RegNum)
  /-- `JLTUL Rd,Ra,Rb`, 32 bits (R252). -/
  | jltul32 (d a b : RegNum)
  /-- `JLEUL Rd,Ra,Rb`, 32 bits (R253). -/
  | jleul32 (d a b : RegNum)
  deriving DecidableEq, Repr

end Sys2Proof
end

