-- ==== Sys2Proof/WellFormed.lean ====
section
/-!
DEFINITION. What an instruction names and when it is well-formed. The operand types already bound every
field; the one constraint left is that of the long jumps, whose register pair starts at an even register (R254).
-/

namespace Sys2Proof

/-- The length in words: 1 for a 16-bit form, 2 for a 32-bit form (R80). -/
def Instr.words : Instr → Nat
  | .nop16 _ _ => 1
  | .add16 _ _ _ => 1
  | .sub16 _ _ _ => 1
  | .and16 _ _ _ => 1
  | .or16 _ _ _ => 1
  | .xor16 _ _ _ => 1
  | .asr16 _ _ _ => 1
  | .lsl16 _ _ _ => 1
  | .lsr16 _ _ _ => 1
  | .mov16 _ _ => 1
  | .addi16 _ _ _ => 1
  | .subi16 _ _ _ => 1
  | .asri16 _ _ _ => 1
  | .lsli16 _ _ _ => 1
  | .lsri16 _ _ _ => 1
  | .movi16 _ _ => 1
  | .ldb16 _ _ _ => 1
  | .ldw16 _ _ _ => 1
  | .ldbPost16 _ _ _ => 1
  | .ldwPost16 _ _ _ => 1
  | .ldbPre16 _ _ _ => 1
  | .ldwPre16 _ _ _ => 1
  | .stb16 _ _ _ => 1
  | .stw16 _ _ _ => 1
  | .stbPost16 _ _ _ => 1
  | .stwPost16 _ _ _ => 1
  | .stbPre16 _ _ _ => 1
  | .stwPre16 _ _ _ => 1
  | .bra16 _ => 1
  | .bal16 _ _ => 1
  | .beq16 _ _ _ => 1
  | .bne16 _ _ _ => 1
  | .blts16 _ _ _ => 1
  | .bles16 _ _ _ => 1
  | .bltu16 _ _ _ => 1
  | .bleu16 _ _ _ => 1
  | .jmp16 _ => 1
  | .jal16 _ _ => 1
  | .jeq16 _ _ _ => 1
  | .jne16 _ _ _ => 1
  | .jlts16 _ _ _ => 1
  | .jles16 _ _ _ => 1
  | .jltu16 _ _ _ => 1
  | .jleu16 _ _ _ => 1
  | .rte16 _ => 1
  | .nop32 _ _ => 2
  | .add32 _ _ _ => 2
  | .sub32 _ _ _ => 2
  | .and32 _ _ _ => 2
  | .or32 _ _ _ => 2
  | .xor32 _ _ _ => 2
  | .asr32 _ _ _ => 2
  | .lsl32 _ _ _ => 2
  | .lsr32 _ _ _ => 2
  | .mov32 _ _ => 2
  | .addi32 _ _ _ => 2
  | .subi32 _ _ _ => 2
  | .asri32 _ _ _ => 2
  | .lsli32 _ _ _ => 2
  | .lsri32 _ _ _ => 2
  | .movi32 _ _ => 2
  | .addc32 _ _ _ => 2
  | .subc32 _ _ _ => 2
  | .andi32 _ _ _ => 2
  | .ori32 _ _ _ => 2
  | .xori32 _ _ _ => 2
  | .ldb32 _ _ _ => 2
  | .ldw32 _ _ _ => 2
  | .ldbPost32 _ _ _ => 2
  | .ldwPost32 _ _ _ => 2
  | .ldbPre32 _ _ _ => 2
  | .ldwPre32 _ _ _ => 2
  | .stb32 _ _ _ => 2
  | .stw32 _ _ _ => 2
  | .stbPost32 _ _ _ => 2
  | .stwPost32 _ _ _ => 2
  | .stbPre32 _ _ _ => 2
  | .stwPre32 _ _ _ => 2
  | .bra32 _ => 2
  | .bal32 _ _ => 2
  | .beq32 _ _ _ => 2
  | .bne32 _ _ _ => 2
  | .blts32 _ _ _ => 2
  | .bles32 _ _ _ => 2
  | .bltu32 _ _ _ => 2
  | .bleu32 _ _ _ => 2
  | .jmp32 _ => 2
  | .jal32 _ _ => 2
  | .jeq32 _ _ _ => 2
  | .jne32 _ _ _ => 2
  | .jlts32 _ _ _ => 2
  | .jles32 _ _ _ => 2
  | .jltu32 _ _ _ => 2
  | .jleu32 _ _ _ => 2
  | .jmpl32 _ => 2
  | .jall32 _ _ => 2
  | .jeql32 _ _ _ => 2
  | .jnel32 _ _ _ => 2
  | .jltsl32 _ _ _ => 2
  | .jlesl32 _ _ _ => 2
  | .jltul32 _ _ _ => 2
  | .jleul32 _ _ _ => 2

/-- Every register number the instruction's fields name (R14, R23), a 3-bit number as the 6-bit one of
the same register (R22). The second register of a long jump's pair is not a field. -/
def Instr.named : Instr → List RegNum
  | .nop16 d _ => [d.setWidth 6]
  | .add16 d a b => [d.setWidth 6, a.setWidth 6, b.setWidth 6]
  | .sub16 d a b => [d.setWidth 6, a.setWidth 6, b.setWidth 6]
  | .and16 d a b => [d.setWidth 6, a.setWidth 6, b.setWidth 6]
  | .or16 d a b => [d.setWidth 6, a.setWidth 6, b.setWidth 6]
  | .xor16 d a b => [d.setWidth 6, a.setWidth 6, b.setWidth 6]
  | .asr16 d a b => [d.setWidth 6, a.setWidth 6, b.setWidth 6]
  | .lsl16 d a b => [d.setWidth 6, a.setWidth 6, b.setWidth 6]
  | .lsr16 d a b => [d.setWidth 6, a.setWidth 6, b.setWidth 6]
  | .mov16 d a => [d.setWidth 6, a.setWidth 6]
  | .addi16 d a _ => [d.setWidth 6, a.setWidth 6]
  | .subi16 d a _ => [d.setWidth 6, a.setWidth 6]
  | .asri16 d a _ => [d.setWidth 6, a.setWidth 6]
  | .lsli16 d a _ => [d.setWidth 6, a.setWidth 6]
  | .lsri16 d a _ => [d.setWidth 6, a.setWidth 6]
  | .movi16 d _ => [d.setWidth 6]
  | .ldb16 d a _ => [d.setWidth 6, a.setWidth 6]
  | .ldw16 d a _ => [d.setWidth 6, a.setWidth 6]
  | .ldbPost16 d a _ => [d.setWidth 6, a.setWidth 6]
  | .ldwPost16 d a _ => [d.setWidth 6, a.setWidth 6]
  | .ldbPre16 d a _ => [d.setWidth 6, a.setWidth 6]
  | .ldwPre16 d a _ => [d.setWidth 6, a.setWidth 6]
  | .stb16 d _ a => [d.setWidth 6, a.setWidth 6]
  | .stw16 d _ a => [d.setWidth 6, a.setWidth 6]
  | .stbPost16 d _ a => [d.setWidth 6, a.setWidth 6]
  | .stwPost16 d _ a => [d.setWidth 6, a.setWidth 6]
  | .stbPre16 d _ a => [d.setWidth 6, a.setWidth 6]
  | .stwPre16 d _ a => [d.setWidth 6, a.setWidth 6]
  | .bra16 _ => []
  | .bal16 _ b => [b.setWidth 6]
  | .beq16 _ a b => [a.setWidth 6, b.setWidth 6]
  | .bne16 _ a b => [a.setWidth 6, b.setWidth 6]
  | .blts16 _ a b => [a.setWidth 6, b.setWidth 6]
  | .bles16 _ a b => [a.setWidth 6, b.setWidth 6]
  | .bltu16 _ a b => [a.setWidth 6, b.setWidth 6]
  | .bleu16 _ a b => [a.setWidth 6, b.setWidth 6]
  | .jmp16 d => [d.setWidth 6]
  | .jal16 d b => [d.setWidth 6, b.setWidth 6]
  | .jeq16 d a b => [d.setWidth 6, a.setWidth 6, b.setWidth 6]
  | .jne16 d a b => [d.setWidth 6, a.setWidth 6, b.setWidth 6]
  | .jlts16 d a b => [d.setWidth 6, a.setWidth 6, b.setWidth 6]
  | .jles16 d a b => [d.setWidth 6, a.setWidth 6, b.setWidth 6]
  | .jltu16 d a b => [d.setWidth 6, a.setWidth 6, b.setWidth 6]
  | .jleu16 d a b => [d.setWidth 6, a.setWidth 6, b.setWidth 6]
  | .rte16 d => [d.setWidth 6]
  | .nop32 d _ => [d]
  | .add32 d a b => [d, a, b]
  | .sub32 d a b => [d, a, b]
  | .and32 d a b => [d, a, b]
  | .or32 d a b => [d, a, b]
  | .xor32 d a b => [d, a, b]
  | .asr32 d a b => [d, a, b]
  | .lsl32 d a b => [d, a, b]
  | .lsr32 d a b => [d, a, b]
  | .mov32 d a => [d, a]
  | .addi32 d a _ => [d, a]
  | .subi32 d a _ => [d, a]
  | .asri32 d a _ => [d, a]
  | .lsli32 d a _ => [d, a]
  | .lsri32 d a _ => [d, a]
  | .movi32 d _ => [d]
  | .addc32 d a b => [d, a, b]
  | .subc32 d a b => [d, a, b]
  | .andi32 d a _ => [d, a]
  | .ori32 d a _ => [d, a]
  | .xori32 d a _ => [d, a]
  | .ldb32 d a _ => [d, a]
  | .ldw32 d a _ => [d, a]
  | .ldbPost32 d a _ => [d, a]
  | .ldwPost32 d a _ => [d, a]
  | .ldbPre32 d a _ => [d, a]
  | .ldwPre32 d a _ => [d, a]
  | .stb32 d _ a => [d, a]
  | .stw32 d _ a => [d, a]
  | .stbPost32 d _ a => [d, a]
  | .stwPost32 d _ a => [d, a]
  | .stbPre32 d _ a => [d, a]
  | .stwPre32 d _ a => [d, a]
  | .bra32 _ => []
  | .bal32 _ b => [b]
  | .beq32 _ a b => [a, b]
  | .bne32 _ a b => [a, b]
  | .blts32 _ a b => [a, b]
  | .bles32 _ a b => [a, b]
  | .bltu32 _ a b => [a, b]
  | .bleu32 _ a b => [a, b]
  | .jmp32 d => [d]
  | .jal32 d b => [d, b]
  | .jeq32 d a b => [d, a, b]
  | .jne32 d a b => [d, a, b]
  | .jlts32 d a b => [d, a, b]
  | .jles32 d a b => [d, a, b]
  | .jltu32 d a b => [d, a, b]
  | .jleu32 d a b => [d, a, b]
  | .jmpl32 d => [d]
  | .jall32 d b => [d, b]
  | .jeql32 d a b => [d, a, b]
  | .jnel32 d a b => [d, a, b]
  | .jltsl32 d a b => [d, a, b]
  | .jlesl32 d a b => [d, a, b]
  | .jltul32 d a b => [d, a, b]
  | .jleul32 d a b => [d, a, b]

/-- The even register of a long jump's pair; none for every other instruction (R254). -/
def Instr.pair : Instr → Option RegNum
  | .nop16 _ _ => none
  | .add16 _ _ _ => none
  | .sub16 _ _ _ => none
  | .and16 _ _ _ => none
  | .or16 _ _ _ => none
  | .xor16 _ _ _ => none
  | .asr16 _ _ _ => none
  | .lsl16 _ _ _ => none
  | .lsr16 _ _ _ => none
  | .mov16 _ _ => none
  | .addi16 _ _ _ => none
  | .subi16 _ _ _ => none
  | .asri16 _ _ _ => none
  | .lsli16 _ _ _ => none
  | .lsri16 _ _ _ => none
  | .movi16 _ _ => none
  | .ldb16 _ _ _ => none
  | .ldw16 _ _ _ => none
  | .ldbPost16 _ _ _ => none
  | .ldwPost16 _ _ _ => none
  | .ldbPre16 _ _ _ => none
  | .ldwPre16 _ _ _ => none
  | .stb16 _ _ _ => none
  | .stw16 _ _ _ => none
  | .stbPost16 _ _ _ => none
  | .stwPost16 _ _ _ => none
  | .stbPre16 _ _ _ => none
  | .stwPre16 _ _ _ => none
  | .bra16 _ => none
  | .bal16 _ _ => none
  | .beq16 _ _ _ => none
  | .bne16 _ _ _ => none
  | .blts16 _ _ _ => none
  | .bles16 _ _ _ => none
  | .bltu16 _ _ _ => none
  | .bleu16 _ _ _ => none
  | .jmp16 _ => none
  | .jal16 _ _ => none
  | .jeq16 _ _ _ => none
  | .jne16 _ _ _ => none
  | .jlts16 _ _ _ => none
  | .jles16 _ _ _ => none
  | .jltu16 _ _ _ => none
  | .jleu16 _ _ _ => none
  | .rte16 _ => none
  | .nop32 _ _ => none
  | .add32 _ _ _ => none
  | .sub32 _ _ _ => none
  | .and32 _ _ _ => none
  | .or32 _ _ _ => none
  | .xor32 _ _ _ => none
  | .asr32 _ _ _ => none
  | .lsl32 _ _ _ => none
  | .lsr32 _ _ _ => none
  | .mov32 _ _ => none
  | .addi32 _ _ _ => none
  | .subi32 _ _ _ => none
  | .asri32 _ _ _ => none
  | .lsli32 _ _ _ => none
  | .lsri32 _ _ _ => none
  | .movi32 _ _ => none
  | .addc32 _ _ _ => none
  | .subc32 _ _ _ => none
  | .andi32 _ _ _ => none
  | .ori32 _ _ _ => none
  | .xori32 _ _ _ => none
  | .ldb32 _ _ _ => none
  | .ldw32 _ _ _ => none
  | .ldbPost32 _ _ _ => none
  | .ldwPost32 _ _ _ => none
  | .ldbPre32 _ _ _ => none
  | .ldwPre32 _ _ _ => none
  | .stb32 _ _ _ => none
  | .stw32 _ _ _ => none
  | .stbPost32 _ _ _ => none
  | .stwPost32 _ _ _ => none
  | .stbPre32 _ _ _ => none
  | .stwPre32 _ _ _ => none
  | .bra32 _ => none
  | .bal32 _ _ => none
  | .beq32 _ _ _ => none
  | .bne32 _ _ _ => none
  | .blts32 _ _ _ => none
  | .bles32 _ _ _ => none
  | .bltu32 _ _ _ => none
  | .bleu32 _ _ _ => none
  | .jmp32 _ => none
  | .jal32 _ _ => none
  | .jeq32 _ _ _ => none
  | .jne32 _ _ _ => none
  | .jlts32 _ _ _ => none
  | .jles32 _ _ _ => none
  | .jltu32 _ _ _ => none
  | .jleu32 _ _ _ => none
  | .jmpl32 d => some d
  | .jall32 d _ => some d
  | .jeql32 d _ _ => some d
  | .jnel32 d _ _ => some d
  | .jltsl32 d _ _ => some d
  | .jlesl32 d _ _ => some d
  | .jltul32 d _ _ => some d
  | .jleul32 d _ _ => some d

/-- Well-formed: the register pair of a long jump starts at an even register (R254, C10). -/
def Instr.wellFormed (i : Instr) : Bool :=
  match i.pair with
  | some d => d.toNat % 2 == 0
  | none => true

end Sys2Proof
end

