-- ==== Sys2Proof/Decode.lean ====
section
/-!
DEFINITION. The decoder (R97) and, after it, the encoder, both written from the formats of R83 and R85 and the
opcode maps of R87 to R91. Every word has one frame (R82, R84): a top bit, a 2-bit class, a 4-bit opcode (in
a second word, opcode or constant bits) and the three 3-bit slots D, A and B.
-/

namespace Sys2Proof

/-- Why an encoding is reserved: the items of R96. -/
inductive Reserved where
  /-- Items (a) and (g): a load/store opcode whose low two bits are 11. -/
  | loadStoreOpcode
  /-- Item (b): a 16-bit miscellaneous opcode other than RTE's. -/
  | miscOpcode
  /-- Items (c), (f) and (h): a slot the instruction does not use is not zero (R95). -/
  | unusedSlot
  /-- Item (d): the second word's top bit is 1 (R81). -/
  | longerThan32Bits
  /-- Item (e): the second word's class bits are not 00. -/
  | highClassBits
  /-- Items (f) and (h): bits 12..9 of the second word are none of the values R91 assigns. -/
  | secondWordGroup
  /-- Item (i): a 32-bit encoding of the miscellaneous class (R260). -/
  | misc32
  /-- Item (j): a long jump whose pair starts at an odd register or is not present (R254). Raised by the
  instruction's meaning, where R246 to R253 put the check, not by the decoder. -/
  | registerPair
  /-- The 32-bit NOP with constant 0, 2, 3 or 4 under the setting `refuse` (R298). Raised by its meaning. -/
  | nop32Refused
  /-- Fewer words than the first word calls for: no encoding at all. No step raises it. -/
  | truncated
  deriving DecidableEq, Repr

/-- The frame every code word has (R82, R84). -/
structure Fields where
  /-- Bit 15: in a first word the length, in a second word 0 (R80, R81). -/
  top : BitVec 1
  /-- Bits 14..13: `c1 c0`, in a second word `c3 c2` (R86). -/
  cls : BitVec 2
  /-- Bits 12..9: `o3..o0`, in a second word opcode or constant bits. -/
  op : BitVec 4
  /-- Slot D, bits 8..6. -/
  d : BitVec 3
  /-- Slot A, bits 5..3. -/
  a : BitVec 3
  /-- Slot B, bits 2..0. -/
  b : BitVec 3
  deriving DecidableEq, Repr

/-- A code word cut into its frame (R82, R84). -/
def fieldsOf (w : Word) : Fields where
  top := w.extractLsb' 15 1
  cls := w.extractLsb' 13 2
  op := w.extractLsb' 9 4
  d := w.extractLsb' 6 3
  a := w.extractLsb' 3 3
  b := w.extractLsb' 0 3

/-- The code word with the given frame. -/
def Fields.word (f : Fields) : Word :=
  f.top ++ f.cls ++ f.op ++ f.d ++ f.a ++ f.b

/-- 16-bit class 00: Table 3.1 (R87), formats 1, 2 and 5. -/
def decodeAlu16 (f : Fields) : Except Reserved Instr :=
  match f.op.toNat with
  | 0 => .ok (.nop16 f.d (f.a ++ f.b))
  | 1 => .ok (.add16 f.d f.a f.b)
  | 2 => .ok (.sub16 f.d f.a f.b)
  | 3 => .ok (.and16 f.d f.a f.b)
  | 4 => .ok (.or16 f.d f.a f.b)
  | 5 => .ok (.xor16 f.d f.a f.b)
  | 6 => .ok (.asr16 f.d f.a f.b)
  | 7 => .ok (.lsl16 f.d f.a f.b)
  | 8 => .ok (.lsr16 f.d f.a f.b)
  | 9 => if f.b = 0 then .ok (.mov16 f.d f.a) else .error .unusedSlot
  | 10 => .ok (.addi16 f.d f.a f.b)
  | 11 => .ok (.subi16 f.d f.a f.b)
  | 12 => .ok (.asri16 f.d f.a f.b)
  | 13 => .ok (.lsli16 f.d f.a f.b)
  | 14 => .ok (.lsri16 f.d f.a f.b)
  | _ => .ok (.movi16 f.d (f.a ++ f.b))

/-- 16-bit class 01: Table 3.2 (R88), format 4. -/
def decodeLoadStore16 (f : Fields) : Except Reserved Instr :=
  match f.op.toNat with
  | 0 => .ok (.ldb16 f.d f.a f.b)
  | 1 => .ok (.ldbPost16 f.d f.a f.b)
  | 2 => .ok (.ldbPre16 f.d f.a f.b)
  | 4 => .ok (.ldw16 f.d f.a f.b)
  | 5 => .ok (.ldwPost16 f.d f.a f.b)
  | 6 => .ok (.ldwPre16 f.d f.a f.b)
  | 8 => .ok (.stb16 f.d f.b f.a)
  | 9 => .ok (.stbPost16 f.d f.b f.a)
  | 10 => .ok (.stbPre16 f.d f.b f.a)
  | 12 => .ok (.stw16 f.d f.b f.a)
  | 13 => .ok (.stwPost16 f.d f.b f.a)
  | 14 => .ok (.stwPre16 f.d f.b f.a)
  | _ => .error .loadStoreOpcode

/-- 16-bit class 10: Table 3.3 (R89), formats 1, 3, 6 and 7. -/
def decodeBranch16 (f : Fields) : Except Reserved Instr :=
  match f.op.toNat with
  | 0 => .ok (.bra16 (f.d ++ f.a ++ f.b))
  | 1 => .ok (.bal16 (f.d ++ f.a) f.b)
  | 2 => .ok (.beq16 f.d f.a f.b)
  | 3 => .ok (.bne16 f.d f.a f.b)
  | 4 => .ok (.blts16 f.d f.a f.b)
  | 5 => .ok (.bles16 f.d f.a f.b)
  | 6 => .ok (.bltu16 f.d f.a f.b)
  | 7 => .ok (.bleu16 f.d f.a f.b)
  | 8 => if f.a = 0 ∧ f.b = 0 then .ok (.jmp16 f.d) else .error .unusedSlot
  | 9 => if f.a = 0 then .ok (.jal16 f.d f.b) else .error .unusedSlot
  | 10 => .ok (.jeq16 f.d f.a f.b)
  | 11 => .ok (.jne16 f.d f.a f.b)
  | 12 => .ok (.jlts16 f.d f.a f.b)
  | 13 => .ok (.jles16 f.d f.a f.b)
  | 14 => .ok (.jltu16 f.d f.a f.b)
  | _ => .ok (.jleu16 f.d f.a f.b)

/-- 16-bit class 11: Table 3.4 (R90), format 1. -/
def decodeMisc16 (f : Fields) : Except Reserved Instr :=
  match f.op.toNat with
  | 0 => if f.a = 0 ∧ f.b = 0 then .ok (.rte16 f.d) else .error .unusedSlot
  | _ => .error .miscOpcode

/-- A 16-bit instruction, by its class (R86). -/
def decode16 (f : Fields) : Except Reserved Instr :=
  match f.cls.toNat with
  | 0 => decodeAlu16 f
  | 1 => decodeLoadStore16 f
  | 2 => decodeBranch16 f
  | _ => decodeMisc16 f

/-- 32-bit class 00: Table 3.5 (R91), formats 8 to 11, 14 and 15. `f` is the first word, `g` the second; the second
word holds the high bits of every field (R51, R84). -/
def decodeAlu32 (f g : Fields) : Except Reserved Instr :=
  match f.op.toNat with
  | 0 =>
    if g.op = 0 then .ok (.nop32 (g.d ++ f.d) (g.a ++ g.b ++ f.a ++ f.b))
    else .error .secondWordGroup
  | 1 =>
    if g.op = 0 then .ok (.add32 (g.d ++ f.d) (g.a ++ f.a) (g.b ++ f.b))
    else if g.op = 1 then .ok (.addc32 (g.d ++ f.d) (g.a ++ f.a) (g.b ++ f.b))
    else .error .secondWordGroup
  | 2 =>
    if g.op = 0 then .ok (.sub32 (g.d ++ f.d) (g.a ++ f.a) (g.b ++ f.b))
    else if g.op = 1 then .ok (.subc32 (g.d ++ f.d) (g.a ++ f.a) (g.b ++ f.b))
    else .error .secondWordGroup
  | 3 =>
    if g.op = 0 then .ok (.and32 (g.d ++ f.d) (g.a ++ f.a) (g.b ++ f.b))
    else if g.op.extractLsb' 0 1 = 1 then .ok (.andi32 (g.d ++ f.d) (g.a ++ f.a) (g.op.extractLsb' 1 3 ++ g.b ++ f.b))
    else .error .secondWordGroup
  | 4 =>
    if g.op = 0 then .ok (.or32 (g.d ++ f.d) (g.a ++ f.a) (g.b ++ f.b))
    else if g.op.extractLsb' 0 1 = 1 then .ok (.ori32 (g.d ++ f.d) (g.a ++ f.a) (g.op.extractLsb' 1 3 ++ g.b ++ f.b))
    else .error .secondWordGroup
  | 5 =>
    if g.op = 0 then .ok (.xor32 (g.d ++ f.d) (g.a ++ f.a) (g.b ++ f.b))
    else if g.op.extractLsb' 0 1 = 1 then .ok (.xori32 (g.d ++ f.d) (g.a ++ f.a) (g.op.extractLsb' 1 3 ++ g.b ++ f.b))
    else .error .secondWordGroup
  | 6 =>
    if g.op = 0 then .ok (.asr32 (g.d ++ f.d) (g.a ++ f.a) (g.b ++ f.b))
    else .error .secondWordGroup
  | 7 =>
    if g.op = 0 then .ok (.lsl32 (g.d ++ f.d) (g.a ++ f.a) (g.b ++ f.b))
    else .error .secondWordGroup
  | 8 =>
    if g.op = 0 then .ok (.lsr32 (g.d ++ f.d) (g.a ++ f.a) (g.b ++ f.b))
    else .error .secondWordGroup
  | 9 =>
    if g.op = 0 then (if f.b = 0 ∧ g.b = 0 then .ok (.mov32 (g.d ++ f.d) (g.a ++ f.a)) else .error .unusedSlot)
    else .error .secondWordGroup
  | 10 => .ok (.addi32 (g.d ++ f.d) (g.a ++ f.a) (g.op ++ g.b ++ f.b))
  | 11 => .ok (.subi32 (g.d ++ f.d) (g.a ++ f.a) (g.op ++ g.b ++ f.b))
  | 12 =>
    if g.op = 0 then .ok (.asri32 (g.d ++ f.d) (g.a ++ f.a) (g.b ++ f.b))
    else .error .secondWordGroup
  | 13 =>
    if g.op = 0 then .ok (.lsli32 (g.d ++ f.d) (g.a ++ f.a) (g.b ++ f.b))
    else .error .secondWordGroup
  | 14 =>
    if g.op = 0 then .ok (.lsri32 (g.d ++ f.d) (g.a ++ f.a) (g.b ++ f.b))
    else .error .secondWordGroup
  | _ => .ok (.movi32 (g.d ++ f.d) (g.op ++ g.a ++ g.b ++ f.a ++ f.b))

/-- 32-bit class 01: Table 3.6 (R91), format 13. -/
def decodeLoadStore32 (f g : Fields) : Except Reserved Instr :=
  match f.op.toNat with
  | 0 => .ok (.ldb32 (g.d ++ f.d) (g.a ++ f.a) (g.op ++ g.b ++ f.b))
  | 1 => .ok (.ldbPost32 (g.d ++ f.d) (g.a ++ f.a) (g.op ++ g.b ++ f.b))
  | 2 => .ok (.ldbPre32 (g.d ++ f.d) (g.a ++ f.a) (g.op ++ g.b ++ f.b))
  | 4 => .ok (.ldw32 (g.d ++ f.d) (g.a ++ f.a) (g.op ++ g.b ++ f.b))
  | 5 => .ok (.ldwPost32 (g.d ++ f.d) (g.a ++ f.a) (g.op ++ g.b ++ f.b))
  | 6 => .ok (.ldwPre32 (g.d ++ f.d) (g.a ++ f.a) (g.op ++ g.b ++ f.b))
  | 8 => .ok (.stb32 (g.d ++ f.d) (g.op ++ g.b ++ f.b) (g.a ++ f.a))
  | 9 => .ok (.stbPost32 (g.d ++ f.d) (g.op ++ g.b ++ f.b) (g.a ++ f.a))
  | 10 => .ok (.stbPre32 (g.d ++ f.d) (g.op ++ g.b ++ f.b) (g.a ++ f.a))
  | 12 => .ok (.stw32 (g.d ++ f.d) (g.op ++ g.b ++ f.b) (g.a ++ f.a))
  | 13 => .ok (.stwPost32 (g.d ++ f.d) (g.op ++ g.b ++ f.b) (g.a ++ f.a))
  | 14 => .ok (.stwPre32 (g.d ++ f.d) (g.op ++ g.b ++ f.b) (g.a ++ f.a))
  | _ => .error .loadStoreOpcode

/-- 32-bit class 10: Table 3.7 (R91), formats 8, 12, 16 and 17. -/
def decodeBranch32 (f g : Fields) : Except Reserved Instr :=
  match f.op.toNat with
  | 0 => .ok (.bra32 (g.op ++ g.d ++ g.a ++ g.b ++ f.d ++ f.a ++ f.b))
  | 1 => .ok (.bal32 (g.op ++ g.d ++ g.a ++ f.d ++ f.a) (g.b ++ f.b))
  | 2 => .ok (.beq32 (g.op ++ g.d ++ f.d) (g.a ++ f.a) (g.b ++ f.b))
  | 3 => .ok (.bne32 (g.op ++ g.d ++ f.d) (g.a ++ f.a) (g.b ++ f.b))
  | 4 => .ok (.blts32 (g.op ++ g.d ++ f.d) (g.a ++ f.a) (g.b ++ f.b))
  | 5 => .ok (.bles32 (g.op ++ g.d ++ f.d) (g.a ++ f.a) (g.b ++ f.b))
  | 6 => .ok (.bltu32 (g.op ++ g.d ++ f.d) (g.a ++ f.a) (g.b ++ f.b))
  | 7 => .ok (.bleu32 (g.op ++ g.d ++ f.d) (g.a ++ f.a) (g.b ++ f.b))
  | 8 =>
    if g.op = 0 then (if f.a = 0 ∧ f.b = 0 ∧ g.a = 0 ∧ g.b = 0 then .ok (.jmp32 (g.d ++ f.d)) else .error .unusedSlot)
    else if g.op = 1 then (if f.a = 0 ∧ f.b = 0 ∧ g.a = 0 ∧ g.b = 0 then .ok (.jmpl32 (g.d ++ f.d)) else .error .unusedSlot)
    else .error .secondWordGroup
  | 9 =>
    if g.op = 0 then (if f.a = 0 ∧ g.a = 0 then .ok (.jal32 (g.d ++ f.d) (g.b ++ f.b)) else .error .unusedSlot)
    else if g.op = 1 then (if f.a = 0 ∧ g.a = 0 then .ok (.jall32 (g.d ++ f.d) (g.b ++ f.b)) else .error .unusedSlot)
    else .error .secondWordGroup
  | 10 =>
    if g.op = 0 then .ok (.jeq32 (g.d ++ f.d) (g.a ++ f.a) (g.b ++ f.b))
    else if g.op = 1 then .ok (.jeql32 (g.d ++ f.d) (g.a ++ f.a) (g.b ++ f.b))
    else .error .secondWordGroup
  | 11 =>
    if g.op = 0 then .ok (.jne32 (g.d ++ f.d) (g.a ++ f.a) (g.b ++ f.b))
    else if g.op = 1 then .ok (.jnel32 (g.d ++ f.d) (g.a ++ f.a) (g.b ++ f.b))
    else .error .secondWordGroup
  | 12 =>
    if g.op = 0 then .ok (.jlts32 (g.d ++ f.d) (g.a ++ f.a) (g.b ++ f.b))
    else if g.op = 1 then .ok (.jltsl32 (g.d ++ f.d) (g.a ++ f.a) (g.b ++ f.b))
    else .error .secondWordGroup
  | 13 =>
    if g.op = 0 then .ok (.jles32 (g.d ++ f.d) (g.a ++ f.a) (g.b ++ f.b))
    else if g.op = 1 then .ok (.jlesl32 (g.d ++ f.d) (g.a ++ f.a) (g.b ++ f.b))
    else .error .secondWordGroup
  | 14 =>
    if g.op = 0 then .ok (.jltu32 (g.d ++ f.d) (g.a ++ f.a) (g.b ++ f.b))
    else if g.op = 1 then .ok (.jltul32 (g.d ++ f.d) (g.a ++ f.a) (g.b ++ f.b))
    else .error .secondWordGroup
  | _ =>
    if g.op = 0 then .ok (.jleu32 (g.d ++ f.d) (g.a ++ f.a) (g.b ++ f.b))
    else if g.op = 1 then .ok (.jleul32 (g.d ++ f.d) (g.a ++ f.a) (g.b ++ f.b))
    else .error .secondWordGroup

/-- A 32-bit instruction: the second word's top bit and class bits are 0 (R81, R86), then by the first
word's class. -/
def decode32 (f g : Fields) : Except Reserved Instr :=
  if g.top ≠ 0 then .error .longerThan32Bits
  else if g.cls ≠ 0 then .error .highClassBits
  else match f.cls.toNat with
    | 0 => decodeAlu32 f g
    | 1 => decodeLoadStore32 f g
    | 2 => decodeBranch32 f g
    | _ => .error .misc32

/-- The decoder (R80, R97): bit 15 of the first word says whether a second word belongs to the
instruction. Words after the instruction's own are not looked at. -/
def decode : List Word → Except Reserved Instr
  | [] => .error .truncated
  | w0 :: rest =>
    if (fieldsOf w0).top = 0 then decode16 (fieldsOf w0)
    else match rest with
      | [] => .error .truncated
      | w1 :: _ => decode32 (fieldsOf w0) (fieldsOf w1)

/-- The two code words of an instruction whose bits are `w`, numbered as spec/opcode_table.json numbers
them (R102: `insn32 = w0 + 2^16 * w1`); the bits from `nbits` up are 0. -/
def tableWords (nbits w : Nat) : List Word :=
  [BitVec.ofNat 16 (w % 2 ^ nbits), BitVec.ofNat 16 (w % 2 ^ nbits / 2 ^ 16)]

/-- The instruction the decoder reads from an instruction whose bits are `w`, numbered as the opcode
table numbers them. -/
def decodeTableWord (nbits w : Nat) : Option Instr :=
  (decode (tableWords nbits w)).toOption

/-! The encoder. -/

/-- Bits `3k+2 .. 3k` of a field: the piece that one slot holds (R83, R85). -/
def piece {n : Nat} (x : BitVec n) (k : Nat) : BitVec 3 := x.extractLsb' (3 * k) 3

/-- A 16-bit instruction from its class, opcode and slots (R82). -/
def short (cls : BitVec 2) (op : BitVec 4) (d a b : BitVec 3) : List Word :=
  [Fields.word { top := 0, cls, op, d, a, b }]

/-- A 32-bit instruction from its class, its opcode, the second word's bits 12..9 and the slots of both words,
the first word's first (R84). -/
def long (cls : BitVec 2) (op grp : BitVec 4) (d a b d' a' b' : BitVec 3) : List Word :=
  [Fields.word { top := 1, cls, op, d, a, b },
    Fields.word { top := 0, cls := 0, op := grp, d := d', a := a', b := b' }]

/-- The words of an instruction, first word first (R80, R83, R85, R87 to R91). -/
def encode : Instr → List Word
  | .nop16 d imm => short 0 0 d (piece imm 1) (piece imm 0)
  | .add16 d a b => short 0 1 d a b
  | .sub16 d a b => short 0 2 d a b
  | .and16 d a b => short 0 3 d a b
  | .or16 d a b => short 0 4 d a b
  | .xor16 d a b => short 0 5 d a b
  | .asr16 d a b => short 0 6 d a b
  | .lsl16 d a b => short 0 7 d a b
  | .lsr16 d a b => short 0 8 d a b
  | .mov16 d a => short 0 9 d a 0
  | .addi16 d a imm => short 0 10 d a imm
  | .subi16 d a imm => short 0 11 d a imm
  | .asri16 d a imm => short 0 12 d a imm
  | .lsli16 d a imm => short 0 13 d a imm
  | .lsri16 d a imm => short 0 14 d a imm
  | .movi16 d imm => short 0 15 d (piece imm 1) (piece imm 0)
  | .ldb16 d a off => short 1 0 d a off
  | .ldw16 d a off => short 1 4 d a off
  | .ldbPost16 d a off => short 1 1 d a off
  | .ldwPost16 d a off => short 1 5 d a off
  | .ldbPre16 d a off => short 1 2 d a off
  | .ldwPre16 d a off => short 1 6 d a off
  | .stb16 d off a => short 1 8 d a off
  | .stw16 d off a => short 1 12 d a off
  | .stbPost16 d off a => short 1 9 d a off
  | .stwPost16 d off a => short 1 13 d a off
  | .stbPre16 d off a => short 1 10 d a off
  | .stwPre16 d off a => short 1 14 d a off
  | .bra16 off => short 2 0 (piece off 2) (piece off 1) (piece off 0)
  | .bal16 off b => short 2 1 (piece off 1) (piece off 0) b
  | .beq16 off a b => short 2 2 off a b
  | .bne16 off a b => short 2 3 off a b
  | .blts16 off a b => short 2 4 off a b
  | .bles16 off a b => short 2 5 off a b
  | .bltu16 off a b => short 2 6 off a b
  | .bleu16 off a b => short 2 7 off a b
  | .jmp16 d => short 2 8 d 0 0
  | .jal16 d b => short 2 9 d 0 b
  | .jeq16 d a b => short 2 10 d a b
  | .jne16 d a b => short 2 11 d a b
  | .jlts16 d a b => short 2 12 d a b
  | .jles16 d a b => short 2 13 d a b
  | .jltu16 d a b => short 2 14 d a b
  | .jleu16 d a b => short 2 15 d a b
  | .rte16 d => short 3 0 d 0 0
  | .nop32 d imm => long 0 0 0 (piece d 0) (piece imm 1) (piece imm 0) (piece d 1) (piece imm 3) (piece imm 2)
  | .add32 d a b => long 0 1 0 (piece d 0) (piece a 0) (piece b 0) (piece d 1) (piece a 1) (piece b 1)
  | .sub32 d a b => long 0 2 0 (piece d 0) (piece a 0) (piece b 0) (piece d 1) (piece a 1) (piece b 1)
  | .and32 d a b => long 0 3 0 (piece d 0) (piece a 0) (piece b 0) (piece d 1) (piece a 1) (piece b 1)
  | .or32 d a b => long 0 4 0 (piece d 0) (piece a 0) (piece b 0) (piece d 1) (piece a 1) (piece b 1)
  | .xor32 d a b => long 0 5 0 (piece d 0) (piece a 0) (piece b 0) (piece d 1) (piece a 1) (piece b 1)
  | .asr32 d a b => long 0 6 0 (piece d 0) (piece a 0) (piece b 0) (piece d 1) (piece a 1) (piece b 1)
  | .lsl32 d a b => long 0 7 0 (piece d 0) (piece a 0) (piece b 0) (piece d 1) (piece a 1) (piece b 1)
  | .lsr32 d a b => long 0 8 0 (piece d 0) (piece a 0) (piece b 0) (piece d 1) (piece a 1) (piece b 1)
  | .mov32 d a => long 0 9 0 (piece d 0) (piece a 0) 0 (piece d 1) (piece a 1) 0
  | .addi32 d a imm => long 0 10 (imm.extractLsb' 6 4) (piece d 0) (piece a 0) (piece imm 0) (piece d 1) (piece a 1) (piece imm 1)
  | .subi32 d a imm => long 0 11 (imm.extractLsb' 6 4) (piece d 0) (piece a 0) (piece imm 0) (piece d 1) (piece a 1) (piece imm 1)
  | .asri32 d a imm => long 0 12 0 (piece d 0) (piece a 0) (piece imm 0) (piece d 1) (piece a 1) (piece imm 1)
  | .lsli32 d a imm => long 0 13 0 (piece d 0) (piece a 0) (piece imm 0) (piece d 1) (piece a 1) (piece imm 1)
  | .lsri32 d a imm => long 0 14 0 (piece d 0) (piece a 0) (piece imm 0) (piece d 1) (piece a 1) (piece imm 1)
  | .movi32 d imm => long 0 15 (imm.extractLsb' 12 4) (piece d 0) (piece imm 1) (piece imm 0) (piece d 1) (piece imm 3) (piece imm 2)
  | .addc32 d a b => long 0 1 1 (piece d 0) (piece a 0) (piece b 0) (piece d 1) (piece a 1) (piece b 1)
  | .subc32 d a b => long 0 2 1 (piece d 0) (piece a 0) (piece b 0) (piece d 1) (piece a 1) (piece b 1)
  | .andi32 d a imm => long 0 3 (imm.extractLsb' 6 3 ++ 1#1) (piece d 0) (piece a 0) (piece imm 0) (piece d 1) (piece a 1) (piece imm 1)
  | .ori32 d a imm => long 0 4 (imm.extractLsb' 6 3 ++ 1#1) (piece d 0) (piece a 0) (piece imm 0) (piece d 1) (piece a 1) (piece imm 1)
  | .xori32 d a imm => long 0 5 (imm.extractLsb' 6 3 ++ 1#1) (piece d 0) (piece a 0) (piece imm 0) (piece d 1) (piece a 1) (piece imm 1)
  | .ldb32 d a off => long 1 0 (off.extractLsb' 6 4) (piece d 0) (piece a 0) (piece off 0) (piece d 1) (piece a 1) (piece off 1)
  | .ldw32 d a off => long 1 4 (off.extractLsb' 6 4) (piece d 0) (piece a 0) (piece off 0) (piece d 1) (piece a 1) (piece off 1)
  | .ldbPost32 d a off => long 1 1 (off.extractLsb' 6 4) (piece d 0) (piece a 0) (piece off 0) (piece d 1) (piece a 1) (piece off 1)
  | .ldwPost32 d a off => long 1 5 (off.extractLsb' 6 4) (piece d 0) (piece a 0) (piece off 0) (piece d 1) (piece a 1) (piece off 1)
  | .ldbPre32 d a off => long 1 2 (off.extractLsb' 6 4) (piece d 0) (piece a 0) (piece off 0) (piece d 1) (piece a 1) (piece off 1)
  | .ldwPre32 d a off => long 1 6 (off.extractLsb' 6 4) (piece d 0) (piece a 0) (piece off 0) (piece d 1) (piece a 1) (piece off 1)
  | .stb32 d off a => long 1 8 (off.extractLsb' 6 4) (piece d 0) (piece a 0) (piece off 0) (piece d 1) (piece a 1) (piece off 1)
  | .stw32 d off a => long 1 12 (off.extractLsb' 6 4) (piece d 0) (piece a 0) (piece off 0) (piece d 1) (piece a 1) (piece off 1)
  | .stbPost32 d off a => long 1 9 (off.extractLsb' 6 4) (piece d 0) (piece a 0) (piece off 0) (piece d 1) (piece a 1) (piece off 1)
  | .stwPost32 d off a => long 1 13 (off.extractLsb' 6 4) (piece d 0) (piece a 0) (piece off 0) (piece d 1) (piece a 1) (piece off 1)
  | .stbPre32 d off a => long 1 10 (off.extractLsb' 6 4) (piece d 0) (piece a 0) (piece off 0) (piece d 1) (piece a 1) (piece off 1)
  | .stwPre32 d off a => long 1 14 (off.extractLsb' 6 4) (piece d 0) (piece a 0) (piece off 0) (piece d 1) (piece a 1) (piece off 1)
  | .bra32 off => long 2 0 (off.extractLsb' 18 4) (piece off 2) (piece off 1) (piece off 0) (piece off 5) (piece off 4) (piece off 3)
  | .bal32 off b => long 2 1 (off.extractLsb' 12 4) (piece off 1) (piece off 0) (piece b 0) (piece off 3) (piece off 2) (piece b 1)
  | .beq32 off a b => long 2 2 (off.extractLsb' 6 4) (piece off 0) (piece a 0) (piece b 0) (piece off 1) (piece a 1) (piece b 1)
  | .bne32 off a b => long 2 3 (off.extractLsb' 6 4) (piece off 0) (piece a 0) (piece b 0) (piece off 1) (piece a 1) (piece b 1)
  | .blts32 off a b => long 2 4 (off.extractLsb' 6 4) (piece off 0) (piece a 0) (piece b 0) (piece off 1) (piece a 1) (piece b 1)
  | .bles32 off a b => long 2 5 (off.extractLsb' 6 4) (piece off 0) (piece a 0) (piece b 0) (piece off 1) (piece a 1) (piece b 1)
  | .bltu32 off a b => long 2 6 (off.extractLsb' 6 4) (piece off 0) (piece a 0) (piece b 0) (piece off 1) (piece a 1) (piece b 1)
  | .bleu32 off a b => long 2 7 (off.extractLsb' 6 4) (piece off 0) (piece a 0) (piece b 0) (piece off 1) (piece a 1) (piece b 1)
  | .jmp32 d => long 2 8 0 (piece d 0) 0 0 (piece d 1) 0 0
  | .jal32 d b => long 2 9 0 (piece d 0) 0 (piece b 0) (piece d 1) 0 (piece b 1)
  | .jeq32 d a b => long 2 10 0 (piece d 0) (piece a 0) (piece b 0) (piece d 1) (piece a 1) (piece b 1)
  | .jne32 d a b => long 2 11 0 (piece d 0) (piece a 0) (piece b 0) (piece d 1) (piece a 1) (piece b 1)
  | .jlts32 d a b => long 2 12 0 (piece d 0) (piece a 0) (piece b 0) (piece d 1) (piece a 1) (piece b 1)
  | .jles32 d a b => long 2 13 0 (piece d 0) (piece a 0) (piece b 0) (piece d 1) (piece a 1) (piece b 1)
  | .jltu32 d a b => long 2 14 0 (piece d 0) (piece a 0) (piece b 0) (piece d 1) (piece a 1) (piece b 1)
  | .jleu32 d a b => long 2 15 0 (piece d 0) (piece a 0) (piece b 0) (piece d 1) (piece a 1) (piece b 1)
  | .jmpl32 d => long 2 8 1 (piece d 0) 0 0 (piece d 1) 0 0
  | .jall32 d b => long 2 9 1 (piece d 0) 0 (piece b 0) (piece d 1) 0 (piece b 1)
  | .jeql32 d a b => long 2 10 1 (piece d 0) (piece a 0) (piece b 0) (piece d 1) (piece a 1) (piece b 1)
  | .jnel32 d a b => long 2 11 1 (piece d 0) (piece a 0) (piece b 0) (piece d 1) (piece a 1) (piece b 1)
  | .jltsl32 d a b => long 2 12 1 (piece d 0) (piece a 0) (piece b 0) (piece d 1) (piece a 1) (piece b 1)
  | .jlesl32 d a b => long 2 13 1 (piece d 0) (piece a 0) (piece b 0) (piece d 1) (piece a 1) (piece b 1)
  | .jltul32 d a b => long 2 14 1 (piece d 0) (piece a 0) (piece b 0) (piece d 1) (piece a 1) (piece b 1)
  | .jleul32 d a b => long 2 15 1 (piece d 0) (piece a 0) (piece b 0) (piece d 1) (piece a 1) (piece b 1)

end Sys2Proof
end

