-- ==== Sys2Proof/Machine/State.lean ====
section
/-!
DEFINITION. The whole state of the machine (10_state.md), the reasons a step can stop (R304, R305) and the state
after reset (R36, R37, R310).
-/

namespace Sys2Proof.Machine

/-- A sparse memory: (address, content) pairs. An address that is not listed holds no value. `Memory Byte` is
a list of `Host.Cell`; code memory, whose cells are 16-bit words without a byte order (R51, N9), is a
`Memory Word`. -/
abbrev Memory (α : Type) := List (Nat × α)

/-- The canonical form: addresses strictly rising, and each that of a cell that exists (R6, R7). Every listed
cell differs from an unlisted one, which holds no value. -/
abbrev Memory.wf {α : Type} (size : Nat) (m : Memory α) : Prop :=
  m.Pairwise (fun c c' => c.1 < c'.1) ∧ ∀ c ∈ m, c.1 < size

/-- The run state (R35, R305). -/
inductive RunState where
  /-- Steps are taken. -/
  | running
  /-- `halted(breakpoint)`: stopped by NOP with constant 0 (R293). -/
  | halted
  /-- `exited(code)`: ended by NOP with constant 2, with the full 16-bit code (R295). -/
  | exited (code : Word)
  deriving DecidableEq, Repr

/-- The kind and address of a bus error (R11, R285). -/
inductive BusError where
  /-- A load or store touched a data byte that does not exist (R282). -/
  | data (addr : DataAddr)
  /-- A fetch of a code word that does not exist (R283). -/
  | fetch (addr : CodeAddr)
  deriving DecidableEq, Repr

/-- The model faults of R304, and one of the model's own (`unloadedCode`). None is an event of the hardware:
the state at the fault is the state before the step. -/
inductive Fault where
  /-- `ReservedInstruction` (R96, R254, R298): raised by `step` when the decoder refuses, by the long jumps and by
  the 32-bit NOP. Safe: the spec gives the encoding no meaning. -/
  | reservedInstruction (why : Reserved)
  /-- `RegisterOutOfRange` (R23): raised by every instruction that names register `n` with `n` not below `NREGS`.
  Safe: the spec gives no behaviour. -/
  | registerOutOfRange (n : RegNum)
  /-- `UnspecifiedOverlap` (U1 to U5): raised by loads with update, predecrement stores, JAL and JALL on the operand
  overlaps the manual's text leaves with two readings. Safe. -/
  | unspecifiedOverlap
  /-- `UnwrittenRead` (R37): raised by a load of a data byte that exists and that nothing has written. Safe. -/
  | unwrittenRead (addr : DataAddr)
  /-- Raised by `step` when the fetched code word exists but no image has placed it. The model's own (entry 6). Safe:
  the spec takes the image as given. -/
  | unloadedCode (addr : CodeAddr)
  deriving DecidableEq, Repr

/-- Why there is no step at all. -/
inductive Refusal where
  /-- The instruction has no meaning in the model yet. No arm of `exec` answers it. Safe. -/
  | notModelled (mnemonic : String)
  /-- Raised by `step` when the run state is not `running`: the run is over and there is no step (R14, R305). Safe. -/
  | runEnded
  deriving DecidableEq, Repr

/-- The state of the machine. There is nothing else (10_state.md, first paragraph; R31, R34). -/
structure State where
  /-- What the implementation fixes; no step changes it. -/
  config : Config
  /-- The general registers (R20). Those numbered `NREGS` and up do not exist and no instruction reaches them. -/
  regs : Vector Word 64
  /-- The program counter, a word address (R24). -/
  pc : CodeAddr
  /-- The carry flag (R28, R29). -/
  carry : Bool
  /-- The seven status bits other than carry: no name, no behaviour, reached by no instruction (R28). -/
  statusRest : BitVec 7
  /-- Code memory: the program image (R32). -/
  imem : Memory Word
  /-- Data memory (R33). -/
  dmem : Memory Byte
  /-- The run state (R35). -/
  run : RunState
  /-- The bytes written to standard output, oldest first (R35, R296). -/
  stdout : List Byte
  /-- The bytes written to standard error, oldest first (R35, R297). -/
  stderr : List Byte
  /-- The model's own log of the bus errors taken, oldest first; no instruction reads it (R284). -/
  busErrors : List BusError
  deriving DecidableEq, Repr

/-- The value every general register holds after reset. DESIGN CHOICE, unsafe (entry 1): the spec gives none and
says it may never be taken as zero (R37). -/
def State.resetRegister : Word := 0xA5A5

/-- The machine right after power-on reset (R36, R37, R310) with a configuration and a code image, which reset
does not change. The registers, the carry flag and the other status bits hold values the model names
(entries 1, 2 and 3); no data byte holds a value (entry 5). -/
def State.afterReset (config : Config) (image : Memory Word) : State where
  config := config
  regs := Vector.replicate 64 State.resetRegister
  pc := 0
  carry := true
  statusRest := 0x55
  imem := image
  dmem := []
  run := .running
  stdout := []
  stderr := []
  busErrors := []

/-- The machine right after reset, with the standard configuration and no program image placed. -/
def State.reset : State := State.afterReset Config.standard []

end Sys2Proof.Machine
end

