-- ==== Sys2Proof/Machine/Operands.lean ====
section
/-!
DEFINITION. Every operand form: register numbers (R22), constants (R92, R93, R94), addressing modes (R152, R54), access
widths (R57) and the comparisons of the branches and jumps (R176).
-/

namespace Sys2Proof.Machine

/-- The register a 3-bit field names (R22). -/
def regOf (r : ShortReg) : RegNum := r.setWidth 6

/-- An unsigned constant, zero-extended to 16 bits (R92). -/
def zext16 {n : Nat} (i : BitVec n) : Word := i.setWidth 16

/-- A signed constant, sign-extended to a data address's 16 bits (R93). -/
def sext16 {n : Nat} (s : BitVec n) : Word := s.signExtend 16

/-- A signed constant, sign-extended to the pc's 24 bits (R93). -/
def sext24 {n : Nat} (s : BitVec n) : CodeAddr := s.signExtend 24

/-- The amount of an immediate shift: the stored field plus one (R94). -/
def shiftAmount {n : Nat} (i : BitVec n) : Nat := i.toNat + 1

/-- The three addressing modes of the load/store instructions (R152). -/
inductive AddrMode where
  /-- `(R,S)`: access at base + S; the base is kept. -/
  | indexed
  /-- `(R+,S)`: access at base + S; the base becomes that address (C14). -/
  | postincrement
  /-- `(-R,S)`: access at base - S; the base becomes that address. -/
  | predecrement
  deriving DecidableEq, Repr

/-- The effective address, modulo 2^16 (R54, R152). -/
def AddrMode.address (m : AddrMode) (base off : Word) : DataAddr :=
  match m with
  | .indexed => base + off
  | .postincrement => base + off
  | .predecrement => base - off

/-- Whether the mode sets the base register to the effective address (R152). -/
def AddrMode.updates (m : AddrMode) : Bool :=
  match m with
  | .indexed => false
  | .postincrement => true
  | .predecrement => true

/-- How much a load or store moves (R57). -/
inductive Width where
  /-- LDB, STB: one byte. -/
  | byte
  /-- LDW, STW: two bytes. -/
  | word
  deriving DecidableEq, Repr

/-- The byte addresses an access at `ea` touches, lowest half first; the second wraps modulo 2^16 (R52, R54). -/
def Width.touched (w : Width) (ea : DataAddr) : List DataAddr :=
  match w with
  | .byte => [ea]
  | .word => [ea, ea + 1]

/-- The comparisons of the conditional branches and jumps (R176). -/
inductive Cond where
  | eq | ne | lts | les | ltu | leu
  deriving DecidableEq, Repr

/-- Whether the comparison of x[a] with x[b] holds; `LTS` and `LES` compare two's-complement numbers (R176). -/
def Cond.holds (c : Cond) (x y : Word) : Bool :=
  match c with
  | .eq => decide (x = y)
  | .ne => decide (x ≠ y)
  | .lts => decide (x.toInt < y.toInt)
  | .les => decide (x.toInt ≤ y.toInt)
  | .ltu => decide (x.toNat < y.toNat)
  | .leu => decide (x.toNat ≤ y.toNat)

end Sys2Proof.Machine
end

