-- ==== Sys2Proof/Machine/Flags.lean ====
section
/-!
DEFINITION. The ALU's results and every carry computation (R29, R137): operands taken as integers, computed exactly,
narrowed at the end.
-/

namespace Sys2Proof.Machine

/-- The exact sum of ADD, ADDI (carry in 0) and ADDC (R121, R201). -/
def exactSum (x y : Word) (cin : Bool) : Nat := x.toNat + y.toNat + cin.toNat

/-- The sum's low 16 bits (R121, R201). -/
def addResult (x y : Word) (cin : Bool) : Word := BitVec.ofNat 16 (exactSum x y cin)

/-- The carry out of the 16-bit sum (R121, R201). -/
def addCarry (x y : Word) (cin : Bool) : Bool := decide (65536 ≤ exactSum x y cin)

/-- The exact difference of SUB, SUBI (borrow in 0) and SUBC (R122, R202). -/
def exactDifference (x y : Word) (cin : Bool) : Int := (x.toNat : Int) - y.toNat - cin.toNat

/-- The difference modulo 2^16 (R122, R202). -/
def subResult (x y : Word) (cin : Bool) : Word := BitVec.ofInt 16 (exactDifference x y cin)

/-- The borrow: 1 when the subtrahend, with the borrow in added over the integers, is greater (R122, R202). -/
def subCarry (x y : Word) (cin : Bool) : Bool := decide (x.toNat < y.toNat + cin.toNat)

/-- ASR and ASRI: the 17-bit value carry::x shifted right with zero fill, narrowed to 16 bits (R126, C12). -/
def asrResult (x : Word) (n : Nat) (cin : Bool) : Word :=
  BitVec.ofNat 16 ((x.toNat + 65536 * cin.toNat) >>> n)

/-- ASR and ASRI always clear the carry flag (R126, R132). -/
def asrCarry : Bool := false

/-- LSL and LSLI: (x * 2^n) mod 2^16; 0 from n = 16 on (R127). -/
def lslResult (x : Word) (n : Nat) : Word := if n < 16 then x <<< n else 0

/-- LSR and LSRI: floor(x / 2^n); 0 from n = 16 on (R128). -/
def lsrResult (x : Word) (n : Nat) : Word := x >>> n

end Sys2Proof.Machine
end

