-- ==== Sys2Proof/Machine/Ops.lean ====
section
/-!
DEFINITION. The named operations over registers, pc, run state and memories, fetching, taking an event and
returning from one.
-/

namespace Sys2Proof.Machine

/-- What a meaning answers. -/
abbrev Result := Host.Outcome State Fault Refusal

/-! Registers, carry, pc. -/

/-- `x[n]` (R20). -/
def State.reg (s : State) (n : RegNum) : Word := s.regs[n.toNat]

/-- `x[n] <- v` (R20). -/
def State.setReg (s : State) (n : RegNum) (v : Word) : State := { s with regs := s.regs.set n.toNat v }

/-- Whether register `n` exists (R20, R23). -/
def State.hasReg (s : State) (n : RegNum) : Bool := decide (n.toNat < s.config.nregs)

/-- Checks every register number an instruction names against `NREGS` before it is executed (R14, R23). -/
def checkRegs (ns : List RegNum) (s : State) (k : Result) : Result :=
  match ns.find? (fun n => !s.hasReg n) with
  | some n => .fault (.registerOutOfRange n)
  | none => k

/-- `carry <- c` (R29). -/
def State.setCarry (s : State) (c : Bool) : State := { s with carry := c }

/-- `pc <- t` (R27: nothing else of the STATUS/PC register changes). -/
def State.goto (s : State) (t : CodeAddr) : State := { s with pc := t }

/-- The address `len` words on, modulo 2^24 (R26). -/
def State.nextPc (s : State) (len : Nat) : CodeAddr := s.pc + BitVec.ofNat 24 len

/-- `pc <- (pc + len) mod 2^24` (R26). -/
def State.advance (s : State) (len : Nat) : State := s.goto (s.nextPc len)

/-- The link value of BAL, JAL and JALL: the low 16 bits of the next instruction's address (R161, D2). -/
def State.link (s : State) (len : Nat) : Word := (s.nextPc len).setWidth 16

/-- The 24-bit target held in a register pair, its top 8 bits ignored: `x[d+1][7:0] :: x[d]` (R27, R246). -/
def State.pair (s : State) (d : RegNum) : CodeAddr := (s.reg (d + 1)).extractLsb' 0 8 ++ s.reg d

/-- Checks the register pair of a long jump: `d` even and R(d+1) present (R254). -/
def checkPair (d : RegNum) (s : State) (k : Result) : Result :=
  if d.toNat % 2 = 1 ∨ s.config.nregs ≤ d.toNat + 1 then .fault (.reservedInstruction .registerPair) else k

/-! Run state and output streams (R35). -/

/-- Sets the run state (R293, R295). -/
def State.setRun (s : State) (r : RunState) : State := { s with run := r }

/-- Appends a byte to standard output (R296). -/
def State.putStdout (s : State) (b : Byte) : State := { s with stdout := s.stdout ++ [b] }

/-- Appends a byte to standard error (R297). -/
def State.putStderr (s : State) (b : Byte) : State := { s with stderr := s.stderr ++ [b] }

/-! Events (R280). -/

/-- The bus-error vector (R281). -/
def busErrorVector : CodeAddr := 0x000002

/-- TAKING THE BUS-ERROR EVENT (R284): the pc goes to the vector. Nothing is saved and nothing else of the machine
changes; the model records the event in its own log. -/
def State.takeBusError (s : State) (e : BusError) : State :=
  { s.goto busErrorVector with busErrors := s.busErrors ++ [e] }

/-- RETURNING FROM AN EVENT (R180, R289): `pc <- zext_24(x[d])`. Nothing was saved, so nothing is restored. -/
def State.returnFromEvent (s : State) (d : RegNum) : State := s.goto ((s.reg d).setWidth 24)

/-- THE POWER-ON RESET EVENT, raised by the environment (R310): the code image and the configuration stay. -/
def State.powerOnReset (s : State) : State := State.afterReset s.config s.imem

/-! Memories. -/

/-- What a memory holds at an address; an unlisted address holds no value. -/
def Memory.read {α : Type} : Memory α → Nat → Option α
  | [], _ => none
  | (k, v) :: m, a => if a = k then some v else Memory.read m a

/-- Stores at an address, keeping the addresses rising. -/
def Memory.write {α : Type} : Memory α → Nat → α → Memory α
  | [], a, x => [(a, x)]
  | (k, v) :: m, a, x =>
    if a < k then (a, x) :: (k, v) :: m
    else if a = k then (a, x) :: m
    else (k, v) :: Memory.write m a x

/-- `dmem[a]`, or nothing where no byte has been written (R33, R37). -/
def State.dataByte (s : State) (a : DataAddr) : Option Byte := Memory.read s.dmem a.toNat

/-- `dmem[a] <- b` (R33). -/
def State.setDataByte (s : State) (a : DataAddr) (b : Byte) : State :=
  { s with dmem := Memory.write s.dmem a.toNat b }

/-- Whether a data byte exists (R7, R55). -/
def State.hasDataByte (s : State) (a : DataAddr) : Bool := decide (a.toNat < s.config.dmemBytes)

/-- The first byte an access touches that does not exist (R52, R55). -/
def State.firstMissing (s : State) (w : Width) (ea : DataAddr) : Option DataAddr :=
  (w.touched ea).find? (fun a => !s.hasDataByte a)

/-- How a data access ends. -/
inductive Access (α : Type) where
  /-- The access was made. -/
  | done (a : α)
  /-- A touched byte does not exist; nothing was read or written (R55). -/
  | busError (addr : DataAddr)
  /-- A byte to be read exists but holds no value (R37). -/
  | unwritten (addr : DataAddr)
  deriving DecidableEq, Repr

/-- What an instruction does with an access's end: go on, take the bus error with none of its writes done (R153, R286),
or fault. -/
def Access.finish {α : Type} (r : Access α) (s : State) (k : α → Result) : Result :=
  match r with
  | .done a => k a
  | .busError a => .next (s.takeBusError (.data a))
  | .unwritten a => .fault (.unwrittenRead a)

/-- `MemRead(ea, n)` (R52), little-endian (R50); a byte is zero-extended to 16 bits (R57). -/
def State.memRead (s : State) (w : Width) (ea : DataAddr) : Access Word :=
  match s.firstMissing w ea with
  | some a => .busError a
  | none =>
    match s.dataByte ea with
    | none => .unwritten ea
    | some lo =>
      match w with
      | .byte => .done (lo.setWidth 16)
      | .word =>
        match s.dataByte (ea + 1) with
        | none => .unwritten (ea + 1)
        | some hi => .done (hi ++ lo)

/-- The bytes `MemWrite(ea, n, v)` stores, once they exist: the low byte at `ea`, for a word the high byte at
`ea + 1` modulo 2^16 (R50, R53). -/
def State.storeBytes (s : State) (w : Width) (ea : DataAddr) (v : Word) : State :=
  match w with
  | .byte => s.setDataByte ea (v.extractLsb' 0 8)
  | .word => (s.setDataByte ea (v.extractLsb' 0 8)).setDataByte (ea + 1) (v.extractLsb' 8 8)

/-- `MemWrite(ea, n, v)` (R53): every touched byte must exist before any is written. -/
def State.memWrite (s : State) (w : Width) (ea : DataAddr) (v : Word) : Access State :=
  match s.firstMissing w ea with
  | some a => .busError a
  | none => .done (s.storeBytes w ea v)

/-! Fetch. -/

/-- `imem[a]`, or nothing where no image has placed a word (R32). -/
def State.codeWord (s : State) (a : CodeAddr) : Option Word := Memory.read s.imem a.toNat

/-- Places a word of the code image: what a loader does, and no instruction (R32, R301). -/
def State.loadCodeWord (s : State) (a : CodeAddr) (w : Word) : State :=
  { s with imem := Memory.write s.imem a.toNat w }

/-- Whether a code word exists (R6, R59). -/
def State.hasCodeWord (s : State) (a : CodeAddr) : Bool := decide (a.toNat < s.config.imemWords)

/-- How a fetch ends. -/
inductive Fetched (α : Type) where
  /-- The words were fetched. -/
  | got (a : α)
  /-- A word at this address does not exist (R59). -/
  | busError (addr : CodeAddr)
  /-- The word exists but no image has placed it. -/
  | unloaded (addr : CodeAddr)
  deriving DecidableEq, Repr

/-- `IFetch(a)` (R59). -/
def State.ifetch (s : State) (a : CodeAddr) : Fetched Word :=
  if s.hasCodeWord a then
    match s.codeWord a with
    | some w => .got w
    | none => .unloaded a
  else .busError a

/-- Whether a first word calls for a second one: its bit 15 is 1 (R80). -/
def isLong (w0 : Word) : Bool := decide ((fieldsOf w0).top = 1)

/-- The words of the instruction at the pc; the second is fetched only when the first calls for it (R14). -/
def State.fetch (s : State) : Fetched (List Word) :=
  match s.ifetch s.pc with
  | .busError a => .busError a
  | .unloaded a => .unloaded a
  | .got w0 =>
    if isLong w0 then
      match s.ifetch (s.nextPc 1) with
      | .busError a => .busError a
      | .unloaded a => .unloaded a
      | .got w1 => .got [w0, w1]
    else .got [w0]

end Sys2Proof.Machine
end

