-- ==== Sys2Proof/Machine/Shapes.lean ====
section
/-!
DEFINITION. What the instructions of one shape share: the 16-bit and the 32-bit form of an instruction, and the
instructions of a family that differ in one function. `len` is the instruction's length in words. Sources are
read from the state before the instruction, writes are made together (R13).
-/

namespace Sys2Proof.Machine

/-! ALU. -/

/-- `Rd <- f(Ra, Rb)`, carry unchanged. -/
def aluRR (len : Nat) (f : Word → Word → Word) (d a b : RegNum) (s : State) : Result :=
  checkRegs [d, a, b] s (.next ((s.setReg d (f (s.reg a) (s.reg b))).advance len))

/-- `Rd <- f(Ra, Rb, carry); carry <- g(Ra, Rb, carry)`. -/
def aluRRCarry (len : Nat) (f : Word → Word → Bool → Word) (g : Word → Word → Bool → Bool) (d a b : RegNum)
    (s : State) : Result :=
  checkRegs [d, a, b] s (.next (((s.setReg d (f (s.reg a) (s.reg b) s.carry)).setCarry
    (g (s.reg a) (s.reg b) s.carry)).advance len))

/-- `Rd <- f(Ra)`, carry unchanged: MOV and the forms with a constant. -/
def aluR (len : Nat) (f : Word → Word) (d a : RegNum) (s : State) : Result :=
  checkRegs [d, a] s (.next ((s.setReg d (f (s.reg a))).advance len))

/-- `Rd <- f(Ra, carry); carry <- g(Ra, carry)`: the forms with a constant that write carry. -/
def aluRCarry (len : Nat) (f : Word → Bool → Word) (g : Word → Bool → Bool) (d a : RegNum) (s : State) : Result :=
  checkRegs [d, a] s (.next (((s.setReg d (f (s.reg a) s.carry)).setCarry (g (s.reg a) s.carry)).advance len))

/-- `Rd <- v`: MOVI. -/
def aluConst (len : Nat) (v : Word) (d : RegNum) (s : State) : Result :=
  checkRegs [d] s (.next ((s.setReg d v).advance len))

/-! NOP. -/

/-- The side effect that the constant of a NOP selects, on the state whose pc is already advanced (R292 to R297). -/
def nopEffect (i : Nat) (d : RegNum) (s : State) : State :=
  match i with
  | 0 => s.setRun .halted
  | 1 => s
  | 2 => s.setRun (.exited (s.reg d))
  | 3 => s.putStdout ((s.reg d).extractLsb' 0 8)
  | 4 => s.putStderr ((s.reg d).extractLsb' 0 8)
  | _ => s

/-- NOP with its side effect; the register number is checked even where it is not read (R23, R292). -/
def nopWithEffect (len : Nat) (d : RegNum) (i : Nat) (s : State) : Result :=
  checkRegs [d] s (.next (nopEffect i d (s.advance len)))

/-- NOP without a side effect. -/
def nopPlain (len : Nat) (d : RegNum) (s : State) : Result :=
  checkRegs [d] s (.next (s.advance len))

/-! Loads and stores (R152, R153). -/

/-- The base register after an access at `ea`. -/
def updateBase (m : AddrMode) (base : RegNum) (ea : DataAddr) (s : State) : State :=
  if m.updates then s.setReg base ea else s

/-- A load: `d` is the data register, `a` the base. A form that updates the base faults when they are one (U1, U2). -/
def load (len : Nat) (w : Width) (m : AddrMode) (d a : RegNum) (off : Word) (s : State) : Result :=
  checkRegs [d, a] s
    (if m.updates && d == a then .fault .unspecifiedOverlap
    else
      let ea := m.address (s.reg a) off
      (s.memRead w ea).finish s fun v => .next (((updateBase m a ea s).setReg d v).advance len))

/-- A store: `d` is the base, `a` the data register. The predecrement form faults when they are one (U3); in the
postincrement form the old value is stored and the register then updated. -/
def store (len : Nat) (w : Width) (m : AddrMode) (d : RegNum) (off : Word) (a : RegNum) (s : State) : Result :=
  checkRegs [d, a] s
    (if m == .predecrement && d == a then .fault .unspecifiedOverlap
    else
      let ea := m.address (s.reg d) off
      (s.memWrite w ea (s.reg a)).finish s fun t => .next ((updateBase m d ea t).advance len))

/-! Branches and jumps (R176). -/

/-- `pc <- pc + S`, relative to the branch itself (R25, R160). -/
def branch (off : CodeAddr) (s : State) : Result := .next (s.goto (s.pc + off))

/-- `Rb <- pc + len; pc <- pc + S` (R161). -/
def branchLink (len : Nat) (off : CodeAddr) (b : RegNum) (s : State) : Result :=
  checkRegs [b] s (.next ((s.setReg b (s.link len)).goto (s.pc + off)))

/-- The pc after a conditional transfer (R176). -/
def State.choose (s : State) (len : Nat) (c : Cond) (a b : RegNum) (target : CodeAddr) : State :=
  if c.holds (s.reg a) (s.reg b) then s.goto target else s.advance len

/-- A conditional relative branch (R162). -/
def branchIf (len : Nat) (c : Cond) (off : CodeAddr) (a b : RegNum) (s : State) : Result :=
  checkRegs [a, b] s (.next (s.choose len c a b (s.pc + off)))

/-- `pc <- zext_24(x[d])` (R168). -/
def jump (d : RegNum) (s : State) : Result :=
  checkRegs [d] s (.next (s.goto ((s.reg d).setWidth 24)))

/-- `Rb <- pc + len; pc <- zext_24(x[d])`; the overlap d = b has no single reading (R169, U4). -/
def jumpLink (len : Nat) (d b : RegNum) (s : State) : Result :=
  checkRegs [d, b] s
    (if d = b then .fault .unspecifiedOverlap
    else .next ((s.setReg b (s.link len)).goto ((s.reg d).setWidth 24)))

/-- A conditional jump through one register (R170). -/
def jumpIf (len : Nat) (c : Cond) (d a b : RegNum) (s : State) : Result :=
  checkRegs [d, a, b] s (.next (s.choose len c a b ((s.reg d).setWidth 24)))

/-- A jump through a register pair (R246). -/
def jumpLong (d : RegNum) (s : State) : Result :=
  checkPair d s (.next (s.goto (s.pair d)))

/-- A jump through a register pair with link; the link register may not be of the pair (R247, U5). -/
def jumpLongLink (len : Nat) (d b : RegNum) (s : State) : Result :=
  checkPair d s (checkRegs [b] s
    (if b = d ∨ b = d + 1 then .fault .unspecifiedOverlap
    else .next ((s.setReg b (s.link len)).goto (s.pair d))))

/-- A conditional jump through a register pair (R248); the pair is checked whether or not it is taken (R254). -/
def jumpLongIf (len : Nat) (c : Cond) (d a b : RegNum) (s : State) : Result :=
  checkPair d s (checkRegs [a, b] s (.next (s.choose len c a b (s.pair d))))

end Sys2Proof.Machine
end

