-- ==== Sys2Proof/Machine/Alu16.lean ====
section
/-!
DEFINITION. The meanings of the 16-bit ALU instructions (40_alu16.md), one definition each.
-/

namespace Sys2Proof.Machine

/-- `NOP Rd,I`, 16 bits (R120). -/
def execNop16 (d : ShortReg) (imm : BitVec 6) (s : State) : Result :=
  nopWithEffect 1 (regOf d) imm.toNat s

/-- `ADD Rd,Ra,Rb`, 16 bits (R121). -/
def execAdd16 (d a b : ShortReg) (s : State) : Result :=
  aluRRCarry 1 (fun x y _ => addResult x y false) (fun x y _ => addCarry x y false) (regOf d) (regOf a) (regOf b) s

/-- `SUB Rd,Ra,Rb`, 16 bits (R122). -/
def execSub16 (d a b : ShortReg) (s : State) : Result :=
  aluRRCarry 1 (fun x y _ => subResult x y false) (fun x y _ => subCarry x y false) (regOf d) (regOf a) (regOf b) s

/-- `AND Rd,Ra,Rb`, 16 bits (R123). -/
def execAnd16 (d a b : ShortReg) (s : State) : Result :=
  aluRR 1 (fun x y => x &&& y) (regOf d) (regOf a) (regOf b) s

/-- `OR Rd,Ra,Rb`, 16 bits (R124). -/
def execOr16 (d a b : ShortReg) (s : State) : Result :=
  aluRR 1 (fun x y => x ||| y) (regOf d) (regOf a) (regOf b) s

/-- `XOR Rd,Ra,Rb`, 16 bits (R125). -/
def execXor16 (d a b : ShortReg) (s : State) : Result :=
  aluRR 1 (fun x y => x ^^^ y) (regOf d) (regOf a) (regOf b) s

/-- `ASR Rd,Ra,Rb`, 16 bits (R126). -/
def execAsr16 (d a b : ShortReg) (s : State) : Result :=
  aluRRCarry 1 (fun x y c => asrResult x y.toNat c) (fun _ _ _ => asrCarry) (regOf d) (regOf a) (regOf b) s

/-- `LSL Rd,Ra,Rb`, 16 bits (R127). -/
def execLsl16 (d a b : ShortReg) (s : State) : Result :=
  aluRR 1 (fun x y => lslResult x y.toNat) (regOf d) (regOf a) (regOf b) s

/-- `LSR Rd,Ra,Rb`, 16 bits (R128). -/
def execLsr16 (d a b : ShortReg) (s : State) : Result :=
  aluRR 1 (fun x y => lsrResult x y.toNat) (regOf d) (regOf a) (regOf b) s

/-- `MOV Rd,Ra`, 16 bits (R129). -/
def execMov16 (d a : ShortReg) (s : State) : Result :=
  aluR 1 (fun x => x) (regOf d) (regOf a) s

/-- `ADDI Rd,Ra,I`, 16 bits (R130). -/
def execAddi16 (d a : ShortReg) (imm : BitVec 3) (s : State) : Result :=
  aluRCarry 1 (fun x _ => addResult x (zext16 imm) false) (fun x _ => addCarry x (zext16 imm) false) (regOf d) (regOf a) s

/-- `SUBI Rd,Ra,I`, 16 bits (R131). -/
def execSubi16 (d a : ShortReg) (imm : BitVec 3) (s : State) : Result :=
  aluRCarry 1 (fun x _ => subResult x (zext16 imm) false) (fun x _ => subCarry x (zext16 imm) false) (regOf d) (regOf a) s

/-- `ASRI Rd,Ra,I`, 16 bits (R132). -/
def execAsri16 (d a : ShortReg) (imm : BitVec 3) (s : State) : Result :=
  aluRCarry 1 (fun x c => asrResult x (shiftAmount imm) c) (fun _ _ => asrCarry) (regOf d) (regOf a) s

/-- `LSLI Rd,Ra,I`, 16 bits (R133). -/
def execLsli16 (d a : ShortReg) (imm : BitVec 3) (s : State) : Result :=
  aluR 1 (fun x => lslResult x (shiftAmount imm)) (regOf d) (regOf a) s

/-- `LSRI Rd,Ra,I`, 16 bits (R134). -/
def execLsri16 (d a : ShortReg) (imm : BitVec 3) (s : State) : Result :=
  aluR 1 (fun x => lsrResult x (shiftAmount imm)) (regOf d) (regOf a) s

/-- `MOVI Rd,I`, 16 bits (R135). -/
def execMovi16 (d : ShortReg) (imm : BitVec 6) (s : State) : Result :=
  aluConst 1 (zext16 imm) (regOf d) s

end Sys2Proof.Machine
end

