-- ==== Sys2Proof/Machine/Alu32.lean ====
section
/-!
DEFINITION. The meanings of the 32-bit ALU instructions (44_alu32.md), one definition each.
-/

namespace Sys2Proof.Machine

/-- `NOP Rd,I`, 32 bits (R185). No side effect for the constant 1 and from 5 on; the constants 0, 2, 3 and 4
are settled by `NOP32_EFFECTS` (R298). -/
def execNop32 (d : RegNum) (imm : BitVec 12) (s : State) : Result :=
  if imm.toNat = 1 ∨ 5 ≤ imm.toNat then nopPlain 2 d s
  else match s.config.nop32 with
    | .refuse => .fault (.reservedInstruction .nop32Refused)
    | .none => nopPlain 2 d s
    | .as16 => nopWithEffect 2 d imm.toNat s

/-- `ADD Rd,Ra,Rb`, 32 bits (R186). -/
def execAdd32 (d a b : RegNum) (s : State) : Result :=
  aluRRCarry 2 (fun x y _ => addResult x y false) (fun x y _ => addCarry x y false) d a b s

/-- `SUB Rd,Ra,Rb`, 32 bits (R187). -/
def execSub32 (d a b : RegNum) (s : State) : Result :=
  aluRRCarry 2 (fun x y _ => subResult x y false) (fun x y _ => subCarry x y false) d a b s

/-- `AND Rd,Ra,Rb`, 32 bits (R188). -/
def execAnd32 (d a b : RegNum) (s : State) : Result :=
  aluRR 2 (fun x y => x &&& y) d a b s

/-- `OR Rd,Ra,Rb`, 32 bits (R189). -/
def execOr32 (d a b : RegNum) (s : State) : Result :=
  aluRR 2 (fun x y => x ||| y) d a b s

/-- `XOR Rd,Ra,Rb`, 32 bits (R190). -/
def execXor32 (d a b : RegNum) (s : State) : Result :=
  aluRR 2 (fun x y => x ^^^ y) d a b s

/-- `ASR Rd,Ra,Rb`, 32 bits (R191). -/
def execAsr32 (d a b : RegNum) (s : State) : Result :=
  aluRRCarry 2 (fun x y c => asrResult x y.toNat c) (fun _ _ _ => asrCarry) d a b s

/-- `LSL Rd,Ra,Rb`, 32 bits (R192). -/
def execLsl32 (d a b : RegNum) (s : State) : Result :=
  aluRR 2 (fun x y => lslResult x y.toNat) d a b s

/-- `LSR Rd,Ra,Rb`, 32 bits (R193). -/
def execLsr32 (d a b : RegNum) (s : State) : Result :=
  aluRR 2 (fun x y => lsrResult x y.toNat) d a b s

/-- `MOV Rd,Ra`, 32 bits (R194). -/
def execMov32 (d a : RegNum) (s : State) : Result :=
  aluR 2 (fun x => x) d a s

/-- `ADDI Rd,Ra,I`, 32 bits (R195). -/
def execAddi32 (d a : RegNum) (imm : BitVec 10) (s : State) : Result :=
  aluRCarry 2 (fun x _ => addResult x (zext16 imm) false) (fun x _ => addCarry x (zext16 imm) false) d a s

/-- `SUBI Rd,Ra,I`, 32 bits (R196). -/
def execSubi32 (d a : RegNum) (imm : BitVec 10) (s : State) : Result :=
  aluRCarry 2 (fun x _ => subResult x (zext16 imm) false) (fun x _ => subCarry x (zext16 imm) false) d a s

/-- `ASRI Rd,Ra,I`, 32 bits (R197). -/
def execAsri32 (d a : RegNum) (imm : BitVec 6) (s : State) : Result :=
  aluRCarry 2 (fun x c => asrResult x (shiftAmount imm) c) (fun _ _ => asrCarry) d a s

/-- `LSLI Rd,Ra,I`, 32 bits (R198). -/
def execLsli32 (d a : RegNum) (imm : BitVec 6) (s : State) : Result :=
  aluR 2 (fun x => lslResult x (shiftAmount imm)) d a s

/-- `LSRI Rd,Ra,I`, 32 bits (R199). -/
def execLsri32 (d a : RegNum) (imm : BitVec 6) (s : State) : Result :=
  aluR 2 (fun x => lsrResult x (shiftAmount imm)) d a s

/-- `MOVI Rd,I`, 32 bits (R200). -/
def execMovi32 (d : RegNum) (imm : BitVec 16) (s : State) : Result :=
  aluConst 2 (zext16 imm) d s

/-- `ADDC Rd,Ra,Rb`, 32 bits (R201). -/
def execAddc32 (d a b : RegNum) (s : State) : Result :=
  aluRRCarry 2 addResult addCarry d a b s

/-- `SUBC Rd,Ra,Rb`, 32 bits (R202). -/
def execSubc32 (d a b : RegNum) (s : State) : Result :=
  aluRRCarry 2 subResult subCarry d a b s

/-- `ANDI Rd,Ra,I`, 32 bits (R203). -/
def execAndi32 (d a : RegNum) (imm : BitVec 9) (s : State) : Result :=
  aluR 2 (fun x => x &&& zext16 imm) d a s

/-- `ORI Rd,Ra,I`, 32 bits (R204). -/
def execOri32 (d a : RegNum) (imm : BitVec 9) (s : State) : Result :=
  aluR 2 (fun x => x ||| zext16 imm) d a s

/-- `XORI Rd,Ra,I`, 32 bits (R205). -/
def execXori32 (d a : RegNum) (imm : BitVec 9) (s : State) : Result :=
  aluR 2 (fun x => x ^^^ zext16 imm) d a s

end Sys2Proof.Machine
end

