-- ==== Sys2Proof/Machine/Branch16.lean ====
section
/-!
DEFINITION. The meanings of the 16-bit branches and jumps (42_branch16.md), one definition each.
-/

namespace Sys2Proof.Machine

/-- `BRA S`, 16 bits (R160). -/
def execBra16 (off : BitVec 9) (s : State) : Result :=
  branch (sext24 off) s

/-- `BAL S,Rb`, 16 bits (R161). -/
def execBal16 (off : BitVec 6) (b : ShortReg) (s : State) : Result :=
  branchLink 1 (sext24 off) (regOf b) s

/-- `BEQ S,Ra,Rb`, 16 bits (R162). -/
def execBeq16 (off : BitVec 3) (a b : ShortReg) (s : State) : Result :=
  branchIf 1 .eq (sext24 off) (regOf a) (regOf b) s

/-- `BNE S,Ra,Rb`, 16 bits (R163). -/
def execBne16 (off : BitVec 3) (a b : ShortReg) (s : State) : Result :=
  branchIf 1 .ne (sext24 off) (regOf a) (regOf b) s

/-- `BLTS S,Ra,Rb`, 16 bits (R164). -/
def execBlts16 (off : BitVec 3) (a b : ShortReg) (s : State) : Result :=
  branchIf 1 .lts (sext24 off) (regOf a) (regOf b) s

/-- `BLES S,Ra,Rb`, 16 bits (R165). -/
def execBles16 (off : BitVec 3) (a b : ShortReg) (s : State) : Result :=
  branchIf 1 .les (sext24 off) (regOf a) (regOf b) s

/-- `BLTU S,Ra,Rb`, 16 bits (R166). -/
def execBltu16 (off : BitVec 3) (a b : ShortReg) (s : State) : Result :=
  branchIf 1 .ltu (sext24 off) (regOf a) (regOf b) s

/-- `BLEU S,Ra,Rb`, 16 bits (R167). -/
def execBleu16 (off : BitVec 3) (a b : ShortReg) (s : State) : Result :=
  branchIf 1 .leu (sext24 off) (regOf a) (regOf b) s

/-- `JMP Rd`, 16 bits (R168). -/
def execJmp16 (d : ShortReg) (s : State) : Result :=
  jump (regOf d) s

/-- `JAL Rd,Rb`, 16 bits (R169). -/
def execJal16 (d b : ShortReg) (s : State) : Result :=
  jumpLink 1 (regOf d) (regOf b) s

/-- `JEQ Rd,Ra,Rb`, 16 bits (R170). -/
def execJeq16 (d a b : ShortReg) (s : State) : Result :=
  jumpIf 1 .eq (regOf d) (regOf a) (regOf b) s

/-- `JNE Rd,Ra,Rb`, 16 bits (R171). -/
def execJne16 (d a b : ShortReg) (s : State) : Result :=
  jumpIf 1 .ne (regOf d) (regOf a) (regOf b) s

/-- `JLTS Rd,Ra,Rb`, 16 bits (R172). -/
def execJlts16 (d a b : ShortReg) (s : State) : Result :=
  jumpIf 1 .lts (regOf d) (regOf a) (regOf b) s

/-- `JLES Rd,Ra,Rb`, 16 bits (R173). -/
def execJles16 (d a b : ShortReg) (s : State) : Result :=
  jumpIf 1 .les (regOf d) (regOf a) (regOf b) s

/-- `JLTU Rd,Ra,Rb`, 16 bits (R174). -/
def execJltu16 (d a b : ShortReg) (s : State) : Result :=
  jumpIf 1 .ltu (regOf d) (regOf a) (regOf b) s

/-- `JLEU Rd,Ra,Rb`, 16 bits (R175). -/
def execJleu16 (d a b : ShortReg) (s : State) : Result :=
  jumpIf 1 .leu (regOf d) (regOf a) (regOf b) s

end Sys2Proof.Machine
end

