-- ==== Sys2Proof/Machine/Branch32.lean ====
section
/-!
DEFINITION. The meanings of the 32-bit branches and jumps (46_branch32.md), one definition each.
-/

namespace Sys2Proof.Machine

/-- `BRA S`, 32 bits (R230). -/
def execBra32 (off : BitVec 22) (s : State) : Result :=
  branch (sext24 off) s

/-- `BAL S,Rb`, 32 bits (R231). -/
def execBal32 (off : BitVec 16) (b : RegNum) (s : State) : Result :=
  branchLink 2 (sext24 off) b s

/-- `BEQ S,Ra,Rb`, 32 bits (R232). -/
def execBeq32 (off : BitVec 10) (a b : RegNum) (s : State) : Result :=
  branchIf 2 .eq (sext24 off) a b s

/-- `BNE S,Ra,Rb`, 32 bits (R233). -/
def execBne32 (off : BitVec 10) (a b : RegNum) (s : State) : Result :=
  branchIf 2 .ne (sext24 off) a b s

/-- `BLTS S,Ra,Rb`, 32 bits (R234). -/
def execBlts32 (off : BitVec 10) (a b : RegNum) (s : State) : Result :=
  branchIf 2 .lts (sext24 off) a b s

/-- `BLES S,Ra,Rb`, 32 bits (R235). -/
def execBles32 (off : BitVec 10) (a b : RegNum) (s : State) : Result :=
  branchIf 2 .les (sext24 off) a b s

/-- `BLTU S,Ra,Rb`, 32 bits (R236). -/
def execBltu32 (off : BitVec 10) (a b : RegNum) (s : State) : Result :=
  branchIf 2 .ltu (sext24 off) a b s

/-- `BLEU S,Ra,Rb`, 32 bits (R237). -/
def execBleu32 (off : BitVec 10) (a b : RegNum) (s : State) : Result :=
  branchIf 2 .leu (sext24 off) a b s

/-- `JMP Rd`, 32 bits (R238). -/
def execJmp32 (d : RegNum) (s : State) : Result :=
  jump d s

/-- `JAL Rd,Rb`, 32 bits (R239). -/
def execJal32 (d b : RegNum) (s : State) : Result :=
  jumpLink 2 d b s

/-- `JEQ Rd,Ra,Rb`, 32 bits (R240). -/
def execJeq32 (d a b : RegNum) (s : State) : Result :=
  jumpIf 2 .eq d a b s

/-- `JNE Rd,Ra,Rb`, 32 bits (R241). -/
def execJne32 (d a b : RegNum) (s : State) : Result :=
  jumpIf 2 .ne d a b s

/-- `JLTS Rd,Ra,Rb`, 32 bits (R242). -/
def execJlts32 (d a b : RegNum) (s : State) : Result :=
  jumpIf 2 .lts d a b s

/-- `JLES Rd,Ra,Rb`, 32 bits (R243). -/
def execJles32 (d a b : RegNum) (s : State) : Result :=
  jumpIf 2 .les d a b s

/-- `JLTU Rd,Ra,Rb`, 32 bits (R244). -/
def execJltu32 (d a b : RegNum) (s : State) : Result :=
  jumpIf 2 .ltu d a b s

/-- `JLEU Rd,Ra,Rb`, 32 bits (R245). -/
def execJleu32 (d a b : RegNum) (s : State) : Result :=
  jumpIf 2 .leu d a b s

/-- `JMPL Rd`, 32 bits (R246). -/
def execJmpl32 (d : RegNum) (s : State) : Result :=
  jumpLong d s

/-- `JALL Rd,Rb`, 32 bits (R247). -/
def execJall32 (d b : RegNum) (s : State) : Result :=
  jumpLongLink 2 d b s

/-- `JEQL Rd,Ra,Rb`, 32 bits (R248). -/
def execJeql32 (d a b : RegNum) (s : State) : Result :=
  jumpLongIf 2 .eq d a b s

/-- `JNEL Rd,Ra,Rb`, 32 bits (R249). -/
def execJnel32 (d a b : RegNum) (s : State) : Result :=
  jumpLongIf 2 .ne d a b s

/-- `JLTSL Rd,Ra,Rb`, 32 bits (R250). -/
def execJltsl32 (d a b : RegNum) (s : State) : Result :=
  jumpLongIf 2 .lts d a b s

/-- `JLESL Rd,Ra,Rb`, 32 bits (R251). -/
def execJlesl32 (d a b : RegNum) (s : State) : Result :=
  jumpLongIf 2 .les d a b s

/-- `JLTUL Rd,Ra,Rb`, 32 bits (R252). -/
def execJltul32 (d a b : RegNum) (s : State) : Result :=
  jumpLongIf 2 .ltu d a b s

/-- `JLEUL Rd,Ra,Rb`, 32 bits (R253). -/
def execJleul32 (d a b : RegNum) (s : State) : Result :=
  jumpLongIf 2 .leu d a b s

end Sys2Proof.Machine
end

