-- ==== Sys2Proof/Machine/LoadStore16.lean ====
section
/-!
DEFINITION. The meanings of the 16-bit load/store instructions (41_loadstore16.md), one definition each.
-/

namespace Sys2Proof.Machine

/-- `LDB Rd,(Ra,S)`, 16 bits (R140). -/
def execLdb16 (d a : ShortReg) (off : BitVec 3) (s : State) : Result :=
  load 1 .byte .indexed (regOf d) (regOf a) (sext16 off) s

/-- `LDW Rd,(Ra,S)`, 16 bits (R141). -/
def execLdw16 (d a : ShortReg) (off : BitVec 3) (s : State) : Result :=
  load 1 .word .indexed (regOf d) (regOf a) (sext16 off) s

/-- `LDB Rd,(Ra+,S)`, 16 bits (R142). -/
def execLdbPost16 (d a : ShortReg) (off : BitVec 3) (s : State) : Result :=
  load 1 .byte .postincrement (regOf d) (regOf a) (sext16 off) s

/-- `LDW Rd,(Ra+,S)`, 16 bits (R143). -/
def execLdwPost16 (d a : ShortReg) (off : BitVec 3) (s : State) : Result :=
  load 1 .word .postincrement (regOf d) (regOf a) (sext16 off) s

/-- `LDB Rd,(-Ra,S)`, 16 bits (R144). -/
def execLdbPre16 (d a : ShortReg) (off : BitVec 3) (s : State) : Result :=
  load 1 .byte .predecrement (regOf d) (regOf a) (sext16 off) s

/-- `LDW Rd,(-Ra,S)`, 16 bits (R145). -/
def execLdwPre16 (d a : ShortReg) (off : BitVec 3) (s : State) : Result :=
  load 1 .word .predecrement (regOf d) (regOf a) (sext16 off) s

/-- `STB (Rd,S),Ra`, 16 bits (R146). -/
def execStb16 (d : ShortReg) (off : BitVec 3) (a : ShortReg) (s : State) : Result :=
  store 1 .byte .indexed (regOf d) (sext16 off) (regOf a) s

/-- `STW (Rd,S),Ra`, 16 bits (R147). -/
def execStw16 (d : ShortReg) (off : BitVec 3) (a : ShortReg) (s : State) : Result :=
  store 1 .word .indexed (regOf d) (sext16 off) (regOf a) s

/-- `STB (Rd+,S),Ra`, 16 bits (R148). -/
def execStbPost16 (d : ShortReg) (off : BitVec 3) (a : ShortReg) (s : State) : Result :=
  store 1 .byte .postincrement (regOf d) (sext16 off) (regOf a) s

/-- `STW (Rd+,S),Ra`, 16 bits (R149). -/
def execStwPost16 (d : ShortReg) (off : BitVec 3) (a : ShortReg) (s : State) : Result :=
  store 1 .word .postincrement (regOf d) (sext16 off) (regOf a) s

/-- `STB (-Rd,S),Ra`, 16 bits (R150). -/
def execStbPre16 (d : ShortReg) (off : BitVec 3) (a : ShortReg) (s : State) : Result :=
  store 1 .byte .predecrement (regOf d) (sext16 off) (regOf a) s

/-- `STW (-Rd,S),Ra`, 16 bits (R151). -/
def execStwPre16 (d : ShortReg) (off : BitVec 3) (a : ShortReg) (s : State) : Result :=
  store 1 .word .predecrement (regOf d) (sext16 off) (regOf a) s

end Sys2Proof.Machine
end

