-- ==== Sys2Proof/Machine/LoadStore32.lean ====
section
/-!
DEFINITION. The meanings of the 32-bit load/store instructions (45_loadstore32.md), one definition each.
-/

namespace Sys2Proof.Machine

/-- `LDB Rd,(Ra,S)`, 32 bits (R210). -/
def execLdb32 (d a : RegNum) (off : BitVec 10) (s : State) : Result :=
  load 2 .byte .indexed d a (sext16 off) s

/-- `LDW Rd,(Ra,S)`, 32 bits (R211). -/
def execLdw32 (d a : RegNum) (off : BitVec 10) (s : State) : Result :=
  load 2 .word .indexed d a (sext16 off) s

/-- `LDB Rd,(Ra+,S)`, 32 bits (R212). -/
def execLdbPost32 (d a : RegNum) (off : BitVec 10) (s : State) : Result :=
  load 2 .byte .postincrement d a (sext16 off) s

/-- `LDW Rd,(Ra+,S)`, 32 bits (R213). -/
def execLdwPost32 (d a : RegNum) (off : BitVec 10) (s : State) : Result :=
  load 2 .word .postincrement d a (sext16 off) s

/-- `LDB Rd,(-Ra,S)`, 32 bits (R214). -/
def execLdbPre32 (d a : RegNum) (off : BitVec 10) (s : State) : Result :=
  load 2 .byte .predecrement d a (sext16 off) s

/-- `LDW Rd,(-Ra,S)`, 32 bits (R215). -/
def execLdwPre32 (d a : RegNum) (off : BitVec 10) (s : State) : Result :=
  load 2 .word .predecrement d a (sext16 off) s

/-- `STB (Rd,S),Ra`, 32 bits (R216). -/
def execStb32 (d : RegNum) (off : BitVec 10) (a : RegNum) (s : State) : Result :=
  store 2 .byte .indexed d (sext16 off) a s

/-- `STW (Rd,S),Ra`, 32 bits (R217). -/
def execStw32 (d : RegNum) (off : BitVec 10) (a : RegNum) (s : State) : Result :=
  store 2 .word .indexed d (sext16 off) a s

/-- `STB (Rd+,S),Ra`, 32 bits (R218). -/
def execStbPost32 (d : RegNum) (off : BitVec 10) (a : RegNum) (s : State) : Result :=
  store 2 .byte .postincrement d (sext16 off) a s

/-- `STW (Rd+,S),Ra`, 32 bits (R219). -/
def execStwPost32 (d : RegNum) (off : BitVec 10) (a : RegNum) (s : State) : Result :=
  store 2 .word .postincrement d (sext16 off) a s

/-- `STB (-Rd,S),Ra`, 32 bits (R220). -/
def execStbPre32 (d : RegNum) (off : BitVec 10) (a : RegNum) (s : State) : Result :=
  store 2 .byte .predecrement d (sext16 off) a s

/-- `STW (-Rd,S),Ra`, 32 bits (R221). -/
def execStwPre32 (d : RegNum) (off : BitVec 10) (a : RegNum) (s : State) : Result :=
  store 2 .word .predecrement d (sext16 off) a s

end Sys2Proof.Machine
end

