-- ==== Sys2Proof/Machine/Misc16.lean ====
section
/-!
DEFINITION. The meanings of the 16-bit miscellaneous instruction (43_misc16.md), one definition each.
-/

namespace Sys2Proof.Machine

/-- `RTE Rd`, 16 bits (R180). -/
def execRte16 (d : ShortReg) (s : State) : Result :=
  checkRegs [regOf d] s (.next (s.returnFromEvent (regOf d)))

end Sys2Proof.Machine
end

