-- ==== Sys2Proof/Machine/Dispatch.lean ====
section
/-!
DEFINITION. One arm per constructor of Instr, each one direct call of the instruction's meaning.
-/

namespace Sys2Proof.Machine

def exec (i : Instr) (s : State) : Host.Outcome State Fault Refusal :=
  match i with
  | .nop16 d imm => Sys2Proof.Machine.execNop16 d imm s
  | .add16 d a b => Sys2Proof.Machine.execAdd16 d a b s
  | .sub16 d a b => Sys2Proof.Machine.execSub16 d a b s
  | .and16 d a b => Sys2Proof.Machine.execAnd16 d a b s
  | .or16 d a b => Sys2Proof.Machine.execOr16 d a b s
  | .xor16 d a b => Sys2Proof.Machine.execXor16 d a b s
  | .asr16 d a b => Sys2Proof.Machine.execAsr16 d a b s
  | .lsl16 d a b => Sys2Proof.Machine.execLsl16 d a b s
  | .lsr16 d a b => Sys2Proof.Machine.execLsr16 d a b s
  | .mov16 d a => Sys2Proof.Machine.execMov16 d a s
  | .addi16 d a imm => Sys2Proof.Machine.execAddi16 d a imm s
  | .subi16 d a imm => Sys2Proof.Machine.execSubi16 d a imm s
  | .asri16 d a imm => Sys2Proof.Machine.execAsri16 d a imm s
  | .lsli16 d a imm => Sys2Proof.Machine.execLsli16 d a imm s
  | .lsri16 d a imm => Sys2Proof.Machine.execLsri16 d a imm s
  | .movi16 d imm => Sys2Proof.Machine.execMovi16 d imm s
  | .ldb16 d a off => Sys2Proof.Machine.execLdb16 d a off s
  | .ldw16 d a off => Sys2Proof.Machine.execLdw16 d a off s
  | .ldbPost16 d a off => Sys2Proof.Machine.execLdbPost16 d a off s
  | .ldwPost16 d a off => Sys2Proof.Machine.execLdwPost16 d a off s
  | .ldbPre16 d a off => Sys2Proof.Machine.execLdbPre16 d a off s
  | .ldwPre16 d a off => Sys2Proof.Machine.execLdwPre16 d a off s
  | .stb16 d off a => Sys2Proof.Machine.execStb16 d off a s
  | .stw16 d off a => Sys2Proof.Machine.execStw16 d off a s
  | .stbPost16 d off a => Sys2Proof.Machine.execStbPost16 d off a s
  | .stwPost16 d off a => Sys2Proof.Machine.execStwPost16 d off a s
  | .stbPre16 d off a => Sys2Proof.Machine.execStbPre16 d off a s
  | .stwPre16 d off a => Sys2Proof.Machine.execStwPre16 d off a s
  | .bra16 off => Sys2Proof.Machine.execBra16 off s
  | .bal16 off b => Sys2Proof.Machine.execBal16 off b s
  | .beq16 off a b => Sys2Proof.Machine.execBeq16 off a b s
  | .bne16 off a b => Sys2Proof.Machine.execBne16 off a b s
  | .blts16 off a b => Sys2Proof.Machine.execBlts16 off a b s
  | .bles16 off a b => Sys2Proof.Machine.execBles16 off a b s
  | .bltu16 off a b => Sys2Proof.Machine.execBltu16 off a b s
  | .bleu16 off a b => Sys2Proof.Machine.execBleu16 off a b s
  | .jmp16 d => Sys2Proof.Machine.execJmp16 d s
  | .jal16 d b => Sys2Proof.Machine.execJal16 d b s
  | .jeq16 d a b => Sys2Proof.Machine.execJeq16 d a b s
  | .jne16 d a b => Sys2Proof.Machine.execJne16 d a b s
  | .jlts16 d a b => Sys2Proof.Machine.execJlts16 d a b s
  | .jles16 d a b => Sys2Proof.Machine.execJles16 d a b s
  | .jltu16 d a b => Sys2Proof.Machine.execJltu16 d a b s
  | .jleu16 d a b => Sys2Proof.Machine.execJleu16 d a b s
  | .rte16 d => Sys2Proof.Machine.execRte16 d s
  | .nop32 d imm => Sys2Proof.Machine.execNop32 d imm s
  | .add32 d a b => Sys2Proof.Machine.execAdd32 d a b s
  | .sub32 d a b => Sys2Proof.Machine.execSub32 d a b s
  | .and32 d a b => Sys2Proof.Machine.execAnd32 d a b s
  | .or32 d a b => Sys2Proof.Machine.execOr32 d a b s
  | .xor32 d a b => Sys2Proof.Machine.execXor32 d a b s
  | .asr32 d a b => Sys2Proof.Machine.execAsr32 d a b s
  | .lsl32 d a b => Sys2Proof.Machine.execLsl32 d a b s
  | .lsr32 d a b => Sys2Proof.Machine.execLsr32 d a b s
  | .mov32 d a => Sys2Proof.Machine.execMov32 d a s
  | .addi32 d a imm => Sys2Proof.Machine.execAddi32 d a imm s
  | .subi32 d a imm => Sys2Proof.Machine.execSubi32 d a imm s
  | .asri32 d a imm => Sys2Proof.Machine.execAsri32 d a imm s
  | .lsli32 d a imm => Sys2Proof.Machine.execLsli32 d a imm s
  | .lsri32 d a imm => Sys2Proof.Machine.execLsri32 d a imm s
  | .movi32 d imm => Sys2Proof.Machine.execMovi32 d imm s
  | .addc32 d a b => Sys2Proof.Machine.execAddc32 d a b s
  | .subc32 d a b => Sys2Proof.Machine.execSubc32 d a b s
  | .andi32 d a imm => Sys2Proof.Machine.execAndi32 d a imm s
  | .ori32 d a imm => Sys2Proof.Machine.execOri32 d a imm s
  | .xori32 d a imm => Sys2Proof.Machine.execXori32 d a imm s
  | .ldb32 d a off => Sys2Proof.Machine.execLdb32 d a off s
  | .ldw32 d a off => Sys2Proof.Machine.execLdw32 d a off s
  | .ldbPost32 d a off => Sys2Proof.Machine.execLdbPost32 d a off s
  | .ldwPost32 d a off => Sys2Proof.Machine.execLdwPost32 d a off s
  | .ldbPre32 d a off => Sys2Proof.Machine.execLdbPre32 d a off s
  | .ldwPre32 d a off => Sys2Proof.Machine.execLdwPre32 d a off s
  | .stb32 d off a => Sys2Proof.Machine.execStb32 d off a s
  | .stw32 d off a => Sys2Proof.Machine.execStw32 d off a s
  | .stbPost32 d off a => Sys2Proof.Machine.execStbPost32 d off a s
  | .stwPost32 d off a => Sys2Proof.Machine.execStwPost32 d off a s
  | .stbPre32 d off a => Sys2Proof.Machine.execStbPre32 d off a s
  | .stwPre32 d off a => Sys2Proof.Machine.execStwPre32 d off a s
  | .bra32 off => Sys2Proof.Machine.execBra32 off s
  | .bal32 off b => Sys2Proof.Machine.execBal32 off b s
  | .beq32 off a b => Sys2Proof.Machine.execBeq32 off a b s
  | .bne32 off a b => Sys2Proof.Machine.execBne32 off a b s
  | .blts32 off a b => Sys2Proof.Machine.execBlts32 off a b s
  | .bles32 off a b => Sys2Proof.Machine.execBles32 off a b s
  | .bltu32 off a b => Sys2Proof.Machine.execBltu32 off a b s
  | .bleu32 off a b => Sys2Proof.Machine.execBleu32 off a b s
  | .jmp32 d => Sys2Proof.Machine.execJmp32 d s
  | .jal32 d b => Sys2Proof.Machine.execJal32 d b s
  | .jeq32 d a b => Sys2Proof.Machine.execJeq32 d a b s
  | .jne32 d a b => Sys2Proof.Machine.execJne32 d a b s
  | .jlts32 d a b => Sys2Proof.Machine.execJlts32 d a b s
  | .jles32 d a b => Sys2Proof.Machine.execJles32 d a b s
  | .jltu32 d a b => Sys2Proof.Machine.execJltu32 d a b s
  | .jleu32 d a b => Sys2Proof.Machine.execJleu32 d a b s
  | .jmpl32 d => Sys2Proof.Machine.execJmpl32 d s
  | .jall32 d b => Sys2Proof.Machine.execJall32 d b s
  | .jeql32 d a b => Sys2Proof.Machine.execJeql32 d a b s
  | .jnel32 d a b => Sys2Proof.Machine.execJnel32 d a b s
  | .jltsl32 d a b => Sys2Proof.Machine.execJltsl32 d a b s
  | .jlesl32 d a b => Sys2Proof.Machine.execJlesl32 d a b s
  | .jltul32 d a b => Sys2Proof.Machine.execJltul32 d a b s
  | .jleul32 d a b => Sys2Proof.Machine.execJleul32 d a b s

end Sys2Proof.Machine
end

