-- ==== Sys2Proof/Machine/Step.lean ====
section
/-!
DEFINITION. One step of the machine (R14).
-/

namespace Sys2Proof.Machine

/-- One step (R14): none unless the machine is running; fetch, decode, execute. A bus error of the fetch replaces
the rest of the step by the event; an encoding the decoder refuses is a model fault. -/
def step (s : State) : Host.Outcome State Fault Refusal :=
  match s.run with
  | .halted => .refused .runEnded
  | .exited _ => .refused .runEnded
  | .running =>
    match s.fetch with
    | .busError a => .next (s.takeBusError (.fetch a))
    | .unloaded a => .fault (.unloadedCode a)
    | .got ws =>
      match decode ws with
      | .error r => .fault (.reservedInstruction r)
      | .ok i => exec i s

/-- `s`, running, with the instruction whose bits are `w` placed where the next step fetches: its first word at
the pc, its second (or a word of zeros) at the next address. It stands for the load of a program from outside
the machine (entry 20). -/
def State.withFetchWord (s : State) (nbits w : Nat) : State :=
  match tableWords nbits w with
  | [w0, w1] => ((s.loadCodeWord s.pc w0).loadCodeWord (s.nextPc 1) w1).setRun .running
  | _ => s

end Sys2Proof.Machine
end

