-- ==== Sys2Proof/Safety.lean ====
section
/-!
DEFINITION. What the claims about the machine speak of: the invariant of every state, what an instruction
needs before it, the classes of instructions that the spec's rules list, and what one step changes and keeps.
-/

namespace Sys2Proof

/-! Classes of instructions. -/

/-- One data access, as an instruction's fields give it (R152): `base` is Ra for a load and Rd for a store, `data` is
Rd for a load and Ra for a store. -/
structure DataAccess where
  store : Bool
  width : Machine.Width
  mode : Machine.AddrMode
  data : RegNum
  base : RegNum
  off : Word
  deriving DecidableEq, Repr

/-- The data access of each of the 24 load and store instructions (R282); no other instruction has one (R33). -/
def Instr.access : Instr → Option DataAccess
  | .ldb16 d a off => some ⟨false, .byte, .indexed, Machine.regOf d, Machine.regOf a, Machine.sext16 off⟩
  | .ldw16 d a off => some ⟨false, .word, .indexed, Machine.regOf d, Machine.regOf a, Machine.sext16 off⟩
  | .ldbPost16 d a off => some ⟨false, .byte, .postincrement, Machine.regOf d, Machine.regOf a, Machine.sext16 off⟩
  | .ldwPost16 d a off => some ⟨false, .word, .postincrement, Machine.regOf d, Machine.regOf a, Machine.sext16 off⟩
  | .ldbPre16 d a off => some ⟨false, .byte, .predecrement, Machine.regOf d, Machine.regOf a, Machine.sext16 off⟩
  | .ldwPre16 d a off => some ⟨false, .word, .predecrement, Machine.regOf d, Machine.regOf a, Machine.sext16 off⟩
  | .stb16 d off a => some ⟨true, .byte, .indexed, Machine.regOf a, Machine.regOf d, Machine.sext16 off⟩
  | .stw16 d off a => some ⟨true, .word, .indexed, Machine.regOf a, Machine.regOf d, Machine.sext16 off⟩
  | .stbPost16 d off a => some ⟨true, .byte, .postincrement, Machine.regOf a, Machine.regOf d, Machine.sext16 off⟩
  | .stwPost16 d off a => some ⟨true, .word, .postincrement, Machine.regOf a, Machine.regOf d, Machine.sext16 off⟩
  | .stbPre16 d off a => some ⟨true, .byte, .predecrement, Machine.regOf a, Machine.regOf d, Machine.sext16 off⟩
  | .stwPre16 d off a => some ⟨true, .word, .predecrement, Machine.regOf a, Machine.regOf d, Machine.sext16 off⟩
  | .ldb32 d a off => some ⟨false, .byte, .indexed, d, a, Machine.sext16 off⟩
  | .ldw32 d a off => some ⟨false, .word, .indexed, d, a, Machine.sext16 off⟩
  | .ldbPost32 d a off => some ⟨false, .byte, .postincrement, d, a, Machine.sext16 off⟩
  | .ldwPost32 d a off => some ⟨false, .word, .postincrement, d, a, Machine.sext16 off⟩
  | .ldbPre32 d a off => some ⟨false, .byte, .predecrement, d, a, Machine.sext16 off⟩
  | .ldwPre32 d a off => some ⟨false, .word, .predecrement, d, a, Machine.sext16 off⟩
  | .stb32 d off a => some ⟨true, .byte, .indexed, a, d, Machine.sext16 off⟩
  | .stw32 d off a => some ⟨true, .word, .indexed, a, d, Machine.sext16 off⟩
  | .stbPost32 d off a => some ⟨true, .byte, .postincrement, a, d, Machine.sext16 off⟩
  | .stwPost32 d off a => some ⟨true, .word, .postincrement, a, d, Machine.sext16 off⟩
  | .stbPre32 d off a => some ⟨true, .byte, .predecrement, a, d, Machine.sext16 off⟩
  | .stwPre32 d off a => some ⟨true, .word, .predecrement, a, d, Machine.sext16 off⟩
  | _ => none

/-- The overlaps of U1, U2 and U3: base and data register are one, in a load that updates its base or in a
predecrement store. -/
def DataAccess.overlaps (x : DataAccess) : Bool :=
  x.data == x.base && (if x.store then x.mode == .predecrement else x.mode.updates)

/-- The instructions that write the carry flag (R29). -/
def Instr.writesCarry : Instr → Bool
  | .add16 _ _ _ => true
  | .add32 _ _ _ => true
  | .addi16 _ _ _ => true
  | .addi32 _ _ _ => true
  | .addc32 _ _ _ => true
  | .sub16 _ _ _ => true
  | .sub32 _ _ _ => true
  | .subi16 _ _ _ => true
  | .subi32 _ _ _ => true
  | .subc32 _ _ _ => true
  | .asr16 _ _ _ => true
  | .asr32 _ _ _ => true
  | .asri16 _ _ _ => true
  | .asri32 _ _ _ => true
  | _ => false

/-- The instructions that read the carry flag (R29). -/
def Instr.readsCarry : Instr → Bool
  | .addc32 _ _ _ => true
  | .subc32 _ _ _ => true
  | .asr16 _ _ _ => true
  | .asr32 _ _ _ => true
  | .asri16 _ _ _ => true
  | .asri32 _ _ _ => true
  | _ => false

/-- NOP, of either length: the one instruction with an effect on the environment (R35, R292). -/
def Instr.isNop : Instr → Bool
  | .nop16 _ _ => true
  | .nop32 _ _ => true
  | _ => false

/-! Reserved encodings, item by item as R96 lists them. The frame of a word is R82's and R84's. -/

/-- The class bits `c1 c0`; in a second word `c3 c2`. -/
def classBits (w : Word) : BitVec 2 := w.extractLsb' 13 2

/-- The opcode bits `o3..o0`; in a second word its bits 12..9. -/
def opcodeBits (w : Word) : BitVec 4 := w.extractLsb' 9 4

/-- Slot A is 000. -/
def slotAZero (w : Word) : Bool := w.extractLsb' 3 3 == 0

/-- Slot B is 000. -/
def slotBZero (w : Word) : Bool := w.extractLsb' 0 3 == 0

/-- Items (a), (b) and (c) of R96: the reserved encodings among the words with bit 15 = 0. -/
def reserved16 (w : Word) : Bool :=
  (classBits w == 1 && [3, 7, 11, 15].contains (opcodeBits w)) ||
  (classBits w == 3 && opcodeBits w != 0) ||
  (classBits w == 0 && opcodeBits w == 9 && !slotBZero w) ||
  (classBits w == 2 && opcodeBits w == 8 && !(slotAZero w && slotBZero w)) ||
  (classBits w == 2 && opcodeBits w == 9 && !slotAZero w) ||
  (classBits w == 3 && opcodeBits w == 0 && !(slotAZero w && slotBZero w))

/-- Items (d) to (i) of R96: the reserved encodings among the pairs whose first word has bit 15 = 1. Item (j) needs
`NREGS` and is the long jumps' own. -/
def reserved32 (w0 w1 : Word) : Bool :=
  w1.getLsbD 15 ||
  classBits w1 != 0 ||
  (classBits w0 == 0 &&
    (([0, 6, 7, 8, 9, 12, 13, 14].contains (opcodeBits w0) && opcodeBits w1 != 0) ||
     ([1, 2].contains (opcodeBits w0) && !([0, 1].contains (opcodeBits w1))) ||
     ([3, 4, 5].contains (opcodeBits w0) && !w1.getLsbD 9 && w1.extractLsb' 10 3 != 0) ||
     (opcodeBits w0 == 9 && !(slotBZero w0 && slotBZero w1)))) ||
  (classBits w0 == 1 && [3, 7, 11, 15].contains (opcodeBits w0)) ||
  (classBits w0 == 2 &&
    ((decide (8 ≤ (opcodeBits w0).toNat) && !([0, 1].contains (opcodeBits w1))) ||
     (opcodeBits w0 == 8 && !(slotAZero w0 && slotBZero w0 && slotAZero w1 && slotBZero w1)) ||
     (opcodeBits w0 == 9 && !(slotAZero w0 && slotAZero w1)))) ||
  classBits w0 == 3

namespace Machine

/-! The invariant. -/

/-- The configuration is in range (R5 to R7), and both memories are in canonical form and list only cells that
exist (R6, R7). -/
abbrev State.Inv (s : State) : Prop :=
  s.config.wf ∧ Memory.wf s.config.imemWords s.imem ∧ Memory.wf s.config.dmemBytes s.dmem

/-! Before an instruction. -/

/-- Every register that the instruction's fields name exists (R23). -/
abbrev State.HasNamed (s : State) (i : Instr) : Prop := ∀ n ∈ i.named, s.hasReg n = true

/-- `d` starts a register pair that a long jump may name: `d` is even and R(d+1) exists (R254). -/
abbrev State.HasPair (s : State) (d : RegNum) : Prop := d.toNat % 2 = 0 ∧ d.toNat + 1 < s.config.nregs

/-- The data byte at `a` exists and holds `b`. -/
abbrev State.Holds (s : State) (a : DataAddr) (b : Byte) : Prop :=
  s.hasDataByte a = true ∧ s.dataByte a = some b

/-- The effective address of a data access, by the function the meanings use (R54). -/
def State.accessAddress (s : State) (x : DataAccess) : DataAddr := x.mode.address (s.reg x.base) x.off

/-- `x[n]` as the integer the rules compute with (R10, R20). -/
abbrev State.int (s : State) (n : RegNum) : Int := (s.reg n).toNat

/-- `signed_16(x[n])` (R10). -/
def State.signed (s : State) (n : RegNum) : Int := if s.int n < 32768 then s.int n else s.int n - 65536

/-! After an instruction. -/

/-- `t` is `s` with exactly the listed registers and data bytes set to the listed values, and with the given
carry and pc. Every other register and data byte reads as before; the other status bits, every code word and the
configuration are unchanged. It says nothing of the run state, the outputs and the log of bus errors. -/
def State.Becomes (s t : State) (regs : List (RegNum × Word)) (carry : Bool) (pc : CodeAddr)
    (bytes : List (DataAddr × Byte)) : Prop :=
  (∀ p ∈ regs, t.reg p.1 = p.2) ∧ (∀ n, n ∉ regs.map Prod.fst → t.reg n = s.reg n) ∧
  t.carry = carry ∧ t.pc = pc ∧ t.statusRest = s.statusRest ∧
  (∀ p ∈ bytes, t.dataByte p.1 = some p.2) ∧ (∀ a, a ∉ bytes.map Prod.fst → t.dataByte a = s.dataByte a) ∧
  (∀ a, t.codeWord a = s.codeWord a) ∧ t.config = s.config

/-- The run state, both outputs and the log of bus errors are unchanged. -/
def State.Quiet (s t : State) : Prop :=
  t.run = s.run ∧ t.stdout = s.stdout ∧ t.stderr = s.stderr ∧ t.busErrors = s.busErrors

/-- `t` is `s` after the bus error `e`: the pc is at the vector and nothing else of the machine has changed; the
model's own log has one entry more (R284). -/
def State.TookBusError (s t : State) (e : BusError) : Prop :=
  s.Becomes t [] s.carry 0x000002 [] ∧ t.run = s.run ∧ t.stdout = s.stdout ∧ t.stderr = s.stderr ∧
    t.busErrors = s.busErrors ++ [e]

/-! Comparing two executions. -/

/-- The result with its next state changed by `f`. -/
def mapNext (f : State → State) (r : Result) : Result :=
  match r with
  | .next t => .next (f t)
  | .fault e => .fault e
  | .refused e => .refused e

/-- `s` with another code memory. -/
def State.withCode (s : State) (m : Memory Word) : State := { s with imem := m }

/-- `s` with another data memory. -/
def State.withData (s : State) (m : Memory Byte) : State := { s with dmem := m }

end Machine

end Sys2Proof
end

