-- ==== Sys2Proof/Certificates/Slice0/Obligations.lean ====
section
/-!
DEFINITION. The statements about the machine, for the provers: one proposition each, in the words of spec/'s rules.
-/

section

open Sys2Proof Sys2Proof.Machine

/-- For every instruction i of the 102, with every operand at every value its field admits, and whatever words
follow, the decoder reads encode i as i. The odd pairs of the long jumps are covered too: the decoder reads
them, and the meaning refuses them. -/
def Obligations.DecodeEncode : Prop :=
  ∀ (i : Instr) (rest : List Word), decode (encode i ++ rest) = .ok i

/-- If the decoder reads an instruction i from a list of words, then the first words of the list, as many as i is
long, are encode i. So every bit of an instruction, the must-be-zero slots and the class bits of the second word
among them, is fixed by the instruction, and no two encodings have one meaning. -/
def Obligations.EncodeDecode : Prop :=
  ∀ (ws : List Word) (i : Instr), decode ws = .ok i → ws.take i.words = encode i

/-- A word with bit 15 = 0 decodes only to 16-bit instructions and is fetched alone; a word with bit 15 = 1 decodes
only to 32-bit instructions, and the fetch takes with it the word at the next word address. It holds at every
word address and in every state: no mode bit enters. -/
def Obligations.InstructionLength : Prop :=
  (∀ (w0 : Word) (rest : List Word) (i : Instr), decode (w0 :: rest) = .ok i →
      i.words = if w0.getLsbD 15 then 2 else 1) ∧
  (∀ (s : State) (w0 : Word), s.hasCodeWord s.pc = true → s.codeWord s.pc = some w0 → w0.getLsbD 15 = false →
      s.fetch = .got [w0]) ∧
  (∀ (s : State) (w0 w1 : Word), s.hasCodeWord s.pc = true → s.codeWord s.pc = some w0 → w0.getLsbD 15 = true →
      s.hasCodeWord (s.pc + 1) = true → s.codeWord (s.pc + 1) = some w1 → s.fetch = .got [w0, w1])

/-- Every 32-bit instruction has two words and bit 15 of the second is 0. Two words whose top bits are both 1 do not
decode, whatever follows, and a step that fetches them faults with ReservedInstruction without fetching a third
word. -/
def Obligations.SecondWordTopBit : Prop :=
  (∀ (i : Instr), i.words = 2 → ∃ w0 w1, encode i = [w0, w1] ∧ w1.getLsbD 15 = false) ∧
  (∀ (w0 w1 : Word) (rest : List Word), w0.getLsbD 15 = true → w1.getLsbD 15 = true →
      decode (w0 :: w1 :: rest) = .error .longerThan32Bits) ∧
  (∀ (s : State) (w0 w1 : Word), s.run = .running → w0.getLsbD 15 = true → w1.getLsbD 15 = true →
      s.hasCodeWord s.pc = true → s.codeWord s.pc = some w0 →
      s.hasCodeWord (s.pc + 1) = true → s.codeWord (s.pc + 1) = some w1 →
      step s = .fault (.reservedInstruction .longerThan32Bits))

/-- A 16-bit word of class 11 decodes to RTE or to nothing, and with an opcode 0001 to 1111 to nothing. No
instruction but NOP changes the run state or an output, and no instruction changes the status bits other than
carry: there is no system call, trap, breakpoint, halt, wait or status-register access beside the constants of
NOP. -/
def Obligations.MiscellaneousClass : Prop :=
  (∀ (w0 : Word) (i : Instr), w0.getLsbD 15 = false → w0.extractLsb' 13 2 = 3 → decode [w0] = .ok i →
      w0.extractLsb' 9 4 = 0 ∧ i = .rte16 (w0.extractLsb' 6 3)) ∧
  (∀ (i : Instr) (s t : State), exec i s = .next t → i.isNop = false →
      t.run = s.run ∧ t.stdout = s.stdout ∧ t.stderr = s.stderr) ∧
  (∀ (i : Instr) (s t : State), exec i s = .next t → t.statusRest = s.statusRest)

/-- Two words, the first with top bit 1 and class bits 11, decode to nothing, and a step that fetches them faults
with ReservedInstruction (R260, R96 item (i)). -/
def Obligations.NoMiscellaneous32 : Prop :=
  (∀ (w0 w1 : Word) (rest : List Word), w0.getLsbD 15 = true → w0.extractLsb' 13 2 = 3 →
      (decode (w0 :: w1 :: rest)).toOption = none) ∧
  (∀ (s : State) (w0 w1 : Word), s.run = .running → w0.getLsbD 15 = true → w0.extractLsb' 13 2 = 3 →
      s.hasCodeWord s.pc = true → s.codeWord s.pc = some w0 →
      s.hasCodeWord (s.pc + 1) = true → s.codeWord (s.pc + 1) = some w1 →
      ∃ r, step s = .fault (.reservedInstruction r))

/-- Written bit by bit from the rows of R122, R143, R161, R180, R203, R220 and R248: SUB R1,R2,R3; LDW R1,(R2+,2);
BAL 5,R0; RTE R1; ANDI R9,R18,421; STB (-R9,2),R18; JEQL R10,R18,R36. One word of each family. -/
def Obligations.DecodeWords : Prop :=
  decode [0b0000010001010011] = .ok (.sub16 1 2 3) ∧
  decode [0b0010101001010010] = .ok (.ldwPost16 1 2 2) ∧
  decode [0b0100001000101000] = .ok (.bal16 5 0) ∧
  decode [0b0110000001000000] = .ok (.rte16 1) ∧
  decode [0b1000011001010101, 0b0001101001010100] = .ok (.andi32 9 18 421) ∧
  decode [0b1011010001010010, 0b0000000001010000] = .ok (.stbPre32 9 2 18) ∧
  decode [0b1101010010010100, 0b0000001001010100] = .ok (.jeql32 10 18 36)

/-- The configuration after reset is in range and both memories are in canonical form. -/
def Obligations.InvReset : Prop :=
  State.reset.Inv

/-- From every state whose configuration is in range and whose memories are in canonical form and list only existing
cells, a step that answers a next state gives a state with the same property. It covers all instructions and
both kinds of bus error. -/
def Obligations.InvKept : Prop :=
  ∀ (s t : State), s.Inv → step s = .next t → t.Inv

/-- It is so of the state after reset and of the state that the power-on reset event makes from any state, whose
code memory and configuration stay (R36, R37, R310, R311). That no data byte holds a value is the model's form
of R37's "unspecified" (log entry 5). What the registers, carry and other status bits hold is not claimed here. -/
def Obligations.ResetState : Prop :=
  (State.reset.pc = 0 ∧ State.reset.run = .running ∧ State.reset.stdout = [] ∧ State.reset.stderr = [] ∧
    ∀ a, State.reset.dataByte a = none) ∧
  (∀ (s : State), s.powerOnReset.pc = 0 ∧ s.powerOnReset.run = .running ∧ s.powerOnReset.stdout = [] ∧
      s.powerOnReset.stderr = [] ∧ (∀ a, s.powerOnReset.dataByte a = none) ∧
      (∀ a, s.powerOnReset.codeWord a = s.codeWord a) ∧ s.powerOnReset.config = s.config)

/-- In a running machine, if the word at the pc has bit 15 = 0 and decodes to i, or has bit 15 = 1 and decodes
together with the next word to i, then the step is exec of i at that state, and nothing more (R14). -/
def Obligations.StepRunsDecoded : Prop :=
  (∀ (s : State) (w0 : Word) (i : Instr), s.run = .running → s.hasCodeWord s.pc = true →
      s.codeWord s.pc = some w0 → w0.getLsbD 15 = false → decode [w0] = .ok i → step s = exec i s) ∧
  (∀ (s : State) (w0 w1 : Word) (i : Instr), s.run = .running → s.hasCodeWord s.pc = true →
      s.codeWord s.pc = some w0 → w0.getLsbD 15 = true → s.hasCodeWord (s.pc + 1) = true →
      s.codeWord (s.pc + 1) = some w1 → decode [w0, w1] = .ok i → step s = exec i s)

/-- If the opcode table's numbering of w decodes to i and the two code words at the pc exist, then the next step
after placing w is exec of i at the state with w placed. Placing puts bits 15..0 of w, the bits from nbits up
taken as 0, at the pc and bits 31..16 at the next address, and makes the run state running; every other code
word and every other field of the state is unchanged. withFetchWord is the model's own stand-in for a loader
(entry 20). -/
def Obligations.PlacedWordRuns : Prop :=
  ∀ (s : State) (nbits w : Nat) (i : Instr), decodeTableWord nbits w = some i →
    s.hasCodeWord s.pc = true → s.hasCodeWord (s.pc + 1) = true →
    ∃ t, s.withFetchWord nbits w = t ∧ step t = exec i t ∧
      t.codeWord s.pc = some (BitVec.ofNat 16 (w % 2 ^ nbits)) ∧
      t.codeWord (s.pc + 1) = some (BitVec.ofNat 16 (w % 2 ^ nbits / 2 ^ 16)) ∧
      (∀ a, a ≠ s.pc → a ≠ s.pc + 1 → t.codeWord a = s.codeWord a) ∧
      t.run = .running ∧ t.pc = s.pc ∧ t.regs = s.regs ∧ t.carry = s.carry ∧ t.statusRest = s.statusRest ∧
      t.dmem = s.dmem ∧ t.config = s.config ∧ t.stdout = s.stdout ∧ t.stderr = s.stderr ∧
      t.busErrors = s.busErrors

/-- In a halted or exited machine there is no step: it is refused (log entry 9). In a running machine no step is
refused, whatever the words are. A step after which the machine no longer runs executed a NOP that the words at
the pc decode to (R14, R305). -/
def Obligations.StepsWhileRunning : Prop :=
  (∀ (s : State), s.run ≠ .running → step s = .refused .runEnded) ∧
  (∀ (s : State) (r : Refusal), s.run = .running → step s ≠ .refused r) ∧
  (∀ (s t : State), step s = .next t → t.run ≠ .running →
      ∃ ws i, s.fetch = .got ws ∧ decode ws = .ok i ∧ i.isNop = true)

/-- In a running machine, if the pc is not less than IMEM_WORDS, or the first word exists and calls for a second
whose address is not less than IMEM_WORDS, the step takes the bus error of that address: the pc goes to 0x000002
and nothing else of the machine changes; the model's own log has one more entry (R59, R283, R284; log entry 10). -/
def Obligations.FetchBusError : Prop :=
  (∀ (s : State), s.run = .running → s.config.imemWords ≤ s.pc.toNat →
      ∃ t, step s = .next t ∧ s.TookBusError t (.fetch s.pc)) ∧
  (∀ (s : State) (w0 : Word), s.run = .running → s.hasCodeWord s.pc = true → s.codeWord s.pc = some w0 →
      w0.getLsbD 15 = true → s.config.imemWords ≤ (s.pc + 1).toNat →
      ∃ t, step s = .next t ∧ s.TookBusError t (.fetch (s.pc + 1)))

/-- For every state and every step that adds to the log of bus errors: one entry is added, the pc is 0x000002
afterwards, and no register, no flag, no byte of data memory, no code word, no output and not the run state has
changed; the instruction has done none of its writes (R284, R286). The log itself is the model's own (entry 10). -/
def Obligations.BusErrorEntry : Prop :=
  ∀ (s t : State), step s = .next t → t.busErrors ≠ s.busErrors → ∃ e, s.TookBusError t e

/-- In a running machine with the pc at 0x000002, if IMEM_WORDS is at most 2, or if it is 3 and the word at 0x000002
calls for a second one, a step takes the bus error of the missing word 0x000002 or 0x000003 and leaves the pc
where it is. After any number k of steps the machine still runs, the pc is at 0x000002, no register, flag, byte
or output has changed, and the bus error has been taken k times (R290, R284; that it was taken is read in the
model's own log, entry 10). -/
def Obligations.DoubleBusError : Prop :=
  (∀ (s : State), s.run = .running → s.pc = 0x000002 → s.config.imemWords ≤ 2 →
      ∃ t, step s = .next t ∧ s.TookBusError t (.fetch 0x000002) ∧ t.pc = s.pc) ∧
  (∀ (k : Nat) (s : State), s.run = .running → s.pc = 0x000002 → s.config.imemWords ≤ 2 →
      ∃ t, Host.Core.run Sys2Proof.core k s = .next t ∧ s.Becomes t [] s.carry 0x000002 [] ∧ t.run = .running ∧
        t.stdout = s.stdout ∧ t.stderr = s.stderr ∧
        t.busErrors = s.busErrors ++ List.replicate k (.fetch 0x000002)) ∧
  (∀ (s : State) (w0 : Word), s.run = .running → s.pc = 0x000002 → s.config.imemWords = 3 →
      s.codeWord 0x000002 = some w0 → w0.getLsbD 15 = true →
      ∃ t, step s = .next t ∧ s.TookBusError t (.fetch 0x000003) ∧ t.pc = s.pc) ∧
  (∀ (k : Nat) (s : State) (w0 : Word), s.run = .running → s.pc = 0x000002 → s.config.imemWords = 3 →
      s.codeWord 0x000002 = some w0 → w0.getLsbD 15 = true →
      ∃ t, Host.Core.run Sys2Proof.core k s = .next t ∧ s.Becomes t [] s.carry 0x000002 [] ∧ t.run = .running ∧
        t.stdout = s.stdout ∧ t.stderr = s.stderr ∧
        t.busErrors = s.busErrors ++ List.replicate k (.fetch 0x000003))

/-- What an instruction does is the same with any other code memory, which it leaves as it is: no instruction reads
or writes it. No run of any length changes it. In a state that satisfies the invariant its words are at
addresses below IMEM_WORDS, which is at most 2^24; a word exists exactly below IMEM_WORDS. -/
def Obligations.CodeMemory : Prop :=
  (∀ (i : Instr) (s : State) (m : Memory Word),
      exec i (s.withCode m) = mapNext (fun t => t.withCode m) (exec i s)) ∧
  (∀ (k : Nat) (s t : State), Host.Core.run Sys2Proof.core k s = .next t → t.imem = s.imem) ∧
  (∀ (s : State) (m : Memory Word), Memory.read m s.pc.toNat = s.codeWord s.pc →
      Memory.read m (s.pc + 1).toNat = s.codeWord (s.pc + 1) →
      step (s.withCode m) = mapNext (fun t => t.withCode m) (step s)) ∧
  (∀ (s : State), s.Inv → s.config.imemWords ≤ 2 ^ 24 ∧ ∀ c ∈ s.imem, c.1 < s.config.imemWords) ∧
  (∀ (s : State) (a : CodeAddr), s.hasCodeWord a = true ↔ a.toNat < s.config.imemWords)

/-- What any other instruction does is the same with any other data memory, which it leaves as it is. No fetch
depends on data memory. In a state that satisfies the invariant its bytes are at addresses below DMEM_BYTES,
which is at most 2^16; a byte exists exactly below DMEM_BYTES. -/
def Obligations.DataMemory : Prop :=
  (∀ (i : Instr) (s : State) (m : Memory Byte), i.access = none →
      exec i (s.withData m) = mapNext (fun t => t.withData m) (exec i s)) ∧
  (∀ (s : State) (m : Memory Byte), (s.withData m).fetch = s.fetch) ∧
  (∀ (s : State), s.Inv → s.config.dmemBytes ≤ 2 ^ 16 ∧ ∀ c ∈ s.dmem, c.1 < s.config.dmemBytes) ∧
  (∀ (s : State) (a : DataAddr), s.hasDataByte a = true ↔ a.toNat < s.config.dmemBytes)

/-- Every instruction outside ADD, ADDI, ADDC, SUB, SUBI, SUBC, ASR and ASRI leaves carry as it was. Every
instruction outside ADDC, SUBC, ASR and ASRI does the same whatever carry is. The listed ones set it to the
carry out, the borrow, or 0; ASR and ASRI shift it in as bit 16, ADDC and SUBC take it as carry or borrow in;
adding constant zero clears it. -/
def Obligations.CarryFlag : Prop :=
  (∀ (i : Instr) (s t : State), exec i s = .next t → i.writesCarry = false → t.carry = s.carry) ∧
  (∀ (i : Instr) (s : State) (c : Bool), i.readsCarry = false →
      exec i (s.setCarry c) = mapNext (fun t => if i.writesCarry then t else t.setCarry c) (exec i s)) ∧
  (∀ (s t : State) d a b, exec (.add16 d a b) s = .next t → t.carry = decide (65536 ≤ s.int (regOf a) + s.int (regOf b))) ∧
  (∀ (s t : State) d a b, exec (.sub16 d a b) s = .next t → t.carry = decide (s.int (regOf a) < s.int (regOf b))) ∧
  (∀ (s t : State) d a imm, exec (.addi16 d a imm) s = .next t → t.carry = decide (65536 ≤ s.int (regOf a) + imm.toNat)) ∧
  (∀ (s t : State) d a imm, exec (.subi16 d a imm) s = .next t → t.carry = decide (s.int (regOf a) < imm.toNat)) ∧
  (∀ (s t : State) d a b, exec (.asr16 d a b) s = .next t →
      t.carry = false ∧ t.reg (regOf d) = BitVec.ofInt 16 ((s.int (regOf a) + (if s.carry then 65536 else 0)) / 2 ^ (s.reg (regOf b)).toNat)) ∧
  (∀ (s t : State) d a imm, exec (.asri16 d a imm) s = .next t →
      t.carry = false ∧ t.reg (regOf d) = BitVec.ofInt 16 ((s.int (regOf a) + (if s.carry then 65536 else 0)) / 2 ^ (imm.toNat + 1))) ∧
  (∀ (s t : State) d a, exec (.addi16 d a 0) s = .next t → t.carry = false) ∧
  (∀ (s t : State) d a b, exec (.add32 d a b) s = .next t → t.carry = decide (65536 ≤ s.int a + s.int b)) ∧
  (∀ (s t : State) d a b, exec (.sub32 d a b) s = .next t → t.carry = decide (s.int a < s.int b)) ∧
  (∀ (s t : State) d a imm, exec (.addi32 d a imm) s = .next t → t.carry = decide (65536 ≤ s.int a + imm.toNat)) ∧
  (∀ (s t : State) d a imm, exec (.subi32 d a imm) s = .next t → t.carry = decide (s.int a < imm.toNat)) ∧
  (∀ (s t : State) d a b, exec (.asr32 d a b) s = .next t →
      t.carry = false ∧ t.reg d = BitVec.ofInt 16 ((s.int a + (if s.carry then 65536 else 0)) / 2 ^ (s.reg b).toNat)) ∧
  (∀ (s t : State) d a imm, exec (.asri32 d a imm) s = .next t →
      t.carry = false ∧ t.reg d = BitVec.ofInt 16 ((s.int a + (if s.carry then 65536 else 0)) / 2 ^ (imm.toNat + 1))) ∧
  (∀ (s t : State) d a, exec (.addi32 d a 0) s = .next t → t.carry = false) ∧
  (∀ (s t : State) d a b, exec (.addc32 d a b) s = .next t →
      t.carry = decide (65536 ≤ s.int a + s.int b + (if s.carry then 1 else 0))) ∧
  (∀ (s t : State) d a b, exec (.subc32 d a b) s = .next t →
      t.carry = decide (s.int a < s.int b + (if s.carry then 1 else 0)))

/-- The registers a 16-bit instruction names are numbered at most 7; what it does is the same whatever a register
from R8 up holds, and that register keeps its value (R22). -/
def Obligations.ShortFormsReach : Prop :=
  (∀ (i : Instr), i.words = 1 → ∀ n ∈ i.named, n.toNat ≤ 7) ∧
  (∀ (i : Instr) (s : State) (n : RegNum) (v : Word), i.words = 1 → 8 ≤ n.toNat →
      exec i (s.setReg n v) = mapNext (fun t => t.setReg n v) (exec i s))

/-- For every step from every state, every register numbered NREGS or more holds after it what it held before. That
the model's array has places for such registers at all is its own choice (entry 30). -/
def Obligations.MissingRegistersKept : Prop :=
  ∀ (s t : State) (n : RegNum), step s = .next t → s.config.nregs ≤ n.toNat → t.reg n = s.reg n

/-- For every instruction that is not a long jump with a bad pair and not a refused 32-bit NOP: if one of the
registers its fields name does not exist, it faults with RegisterOutOfRange naming one of these, whether the
register would be read or written (R23, R304). -/
def Obligations.RegisterOutOfRange : Prop :=
  ∀ (i : Instr) (s : State), (∀ d, i.pair = some d → s.HasPair d) →
    (∀ d imm, i = .nop32 d imm → s.config.nop32 = .refuse → imm.toNat = 1 ∨ 5 ≤ imm.toNat) →
    ¬ s.HasNamed i → ∃ n ∈ i.named, s.hasReg n = false ∧ exec i s = .fault (.registerOutOfRange n)

/-- Each of JMPL, JALL, JEQL, JNEL, JLTSL, JLESL, JLTUL and JLEUL faults with ReservedInstruction when d is odd or d
+ 1 is not less than NREGS, whatever the compared registers hold (R254). -/
def Obligations.LongJumpPair : Prop :=
  ∀ (i : Instr) (d : RegNum) (s : State), i.pair = some d → ¬ s.HasPair d →
    exec i s = .fault (.reservedInstruction .registerPair)

/-- Loads with postincrement or predecrement and d = a, stores with predecrement and d = a, JAL with d = b, JALL
with b = d or b = d + 1, in all their lengths, whatever the registers and the memory hold (U1 to U5). -/
def Obligations.UnspecifiedOverlaps : Prop :=
  (∀ (i : Instr) (x : DataAccess) (s : State), i.access = some x → s.HasNamed i → x.overlaps = true →
      exec i s = .fault .unspecifiedOverlap) ∧
  (∀ (s : State) d, s.HasNamed (.jal16 d d) → exec (.jal16 d d) s = .fault .unspecifiedOverlap) ∧
  (∀ (s : State) d, s.HasNamed (.jal32 d d) → exec (.jal32 d d) s = .fault .unspecifiedOverlap) ∧
  (∀ (s : State) d b, s.HasPair d → s.HasNamed (.jall32 d b) → (b = d ∨ b.toNat = d.toNat + 1) →
      exec (.jall32 d b) s = .fault .unspecifiedOverlap)

/-- If an instruction's execution adds to the log of bus errors, it is a load or store and one of the bytes it
touches is not below DMEM_BYTES. Each of the 24, when its address, or for a word the byte after it, is not below
DMEM_BYTES, takes the bus error of the first such byte and does nothing else. The overlaps that fault before the
access are excepted (R282, R52, R53, R284, R286; log entries 12 and 13). The log itself is the model's own (log
entry 10). -/
def Obligations.DataBusError : Prop :=
  (∀ (i : Instr) (s t : State), exec i s = .next t → t.busErrors ≠ s.busErrors →
      ∃ x, i.access = some x ∧ ∃ a ∈ x.width.touched (s.accessAddress x), s.config.dmemBytes ≤ a.toNat) ∧
  (∀ (i : Instr) (x : DataAccess) (s : State), i.access = some x → s.HasNamed i → x.overlaps = false →
      s.config.dmemBytes ≤ (s.accessAddress x).toNat →
      ∃ t, exec i s = .next t ∧ s.TookBusError t (.data (s.accessAddress x))) ∧
  (∀ (i : Instr) (x : DataAccess) (s : State), i.access = some x → s.HasNamed i → x.overlaps = false →
      x.width = .word → (s.accessAddress x).toNat < s.config.dmemBytes →
      s.config.dmemBytes ≤ (s.accessAddress x + 1).toNat →
      ∃ t, exec i s = .next t ∧ s.TookBusError t (.data (s.accessAddress x + 1)))

/-- Each of the twelve loads, when all the bytes it touches exist and the first, or for a word only the second,
holds no value, faults naming that byte (R37, R304; data bytes only, log entries 4 and 5). -/
def Obligations.UnwrittenRead : Prop :=
  (∀ (i : Instr) (x : DataAccess) (s : State), i.access = some x → x.store = false → s.HasNamed i →
      x.overlaps = false → (∀ a ∈ x.width.touched (s.accessAddress x), s.hasDataByte a = true) →
      s.dataByte (s.accessAddress x) = none → exec i s = .fault (.unwrittenRead (s.accessAddress x))) ∧
  (∀ (i : Instr) (x : DataAccess) (s : State) (lo : Byte), i.access = some x → x.store = false → s.HasNamed i →
      x.overlaps = false → x.width = .word → s.hasDataByte (s.accessAddress x + 1) = true →
      s.Holds (s.accessAddress x) lo → s.dataByte (s.accessAddress x + 1) = none →
      exec i s = .fault (.unwrittenRead (s.accessAddress x + 1)))

/-- After a step each output is what it was with nothing or one byte appended, and so is the model's log of bus
errors (R35, R296, R297; the log is the model's own, entry 10). -/
def Obligations.OutputsGrow : Prop :=
  ∀ (s t : State), step s = .next t → ∃ o e b, t.stdout = s.stdout ++ o ∧ t.stderr = s.stderr ++ e ∧
    t.busErrors = s.busErrors ++ b ∧ o.length + e.length + b.length ≤ 1

/-- A touched byte that does not exist gives the bus error of the first such byte; otherwise one byte is read as its
value and two as dmem[A0] + 256 * dmem[A1], the second address taken modulo 2^16. The read returns no state: it
has no side effect. (A byte holding no value is the case of the claim UnwrittenRead.) -/
def Obligations.MemRead : Prop :=
  (∀ (s : State) (w : Width) (ea : DataAddr), s.config.dmemBytes ≤ ea.toNat → s.memRead w ea = .busError ea) ∧
  (∀ (s : State) (ea : DataAddr), ea.toNat < s.config.dmemBytes →
      s.config.dmemBytes ≤ (ea.toNat + 1) % 2 ^ 16 → s.memRead .word ea = .busError (ea + 1)) ∧
  (∀ (s : State) (ea : DataAddr) (lo : Byte), s.Holds ea lo →
      ∃ v, s.memRead .byte ea = .done v ∧ v.toNat = lo.toNat) ∧
  (∀ (s : State) (ea : DataAddr) (lo hi : Byte), s.Holds ea lo → s.Holds (BitVec.ofNat 16 (ea.toNat + 1)) hi →
      ∃ v, s.memRead .word ea = .done v ∧ v.toNat = lo.toNat + 256 * hi.toNat)

/-- If a touched byte does not exist nothing is written and the bus error of the first such byte results. Otherwise
the byte at A0 is v[7:0], for a word the byte at A1 is v[15:8], every other byte is as before, and registers, pc
and carry are untouched (R53). -/
def Obligations.MemWrite : Prop :=
  (∀ (s : State) (w : Width) (ea : DataAddr) (v : Word), s.config.dmemBytes ≤ ea.toNat →
      s.memWrite w ea v = .busError ea) ∧
  (∀ (s : State) (ea : DataAddr) (v : Word), ea.toNat < s.config.dmemBytes →
      s.config.dmemBytes ≤ (ea + 1).toNat → s.memWrite .word ea v = .busError (ea + 1)) ∧
  (∀ (s : State) (ea : DataAddr) (v : Word), s.hasDataByte ea = true →
      ∃ t, s.memWrite .byte ea v = .done t ∧ s.Becomes t [] s.carry s.pc [(ea, v.extractLsb' 0 8)] ∧ s.Quiet t) ∧
  (∀ (s : State) (ea : DataAddr) (v : Word), s.hasDataByte ea = true → s.hasDataByte (ea + 1) = true →
      ∃ t, s.memWrite .word ea v = .done t ∧
        s.Becomes t [] s.carry s.pc [(ea, v.extractLsb' 0 8), (ea + 1, v.extractLsb' 8 8)] ∧ s.Quiet t)

/-- After a word v is written at A, dmem[A] is v[7:0] and dmem[A+1] is v[15:8]; reading the word gives v, reading
the byte at A gives v[7:0] and at A+1 gives v[15:8]. Nothing in the state takes part in the byte order. -/
def Obligations.LittleEndian : Prop :=
  ∀ (s t : State) (a : DataAddr) (v : Word), s.memWrite .word a v = .done t →
    t.dataByte a = some (v.extractLsb' 0 8) ∧ t.dataByte (a + 1) = some (v.extractLsb' 8 8) ∧
    t.memRead .word a = .done v ∧
    t.memRead .byte a = .done (BitVec.ofNat 16 (v.toNat % 256)) ∧
    t.memRead .byte (a + 1) = .done (BitVec.ofNat 16 (v.toNat / 256))

/-- The address an access is made at, as an integer, is the base register plus the sign-extended offset (indexed,
postincrement) or minus it (predecrement), modulo 2^16, for both widths of S (R54, R93, R152). -/
def Obligations.EffectiveAddress : Prop :=
  (∀ (base : Word) (off : BitVec 3),
      ((AddrMode.indexed.address base (sext16 off)).toNat : Int) = (base.toNat + off.toInt) % 65536 ∧
      ((AddrMode.postincrement.address base (sext16 off)).toNat : Int) = (base.toNat + off.toInt) % 65536 ∧
      ((AddrMode.predecrement.address base (sext16 off)).toNat : Int) = (base.toNat - off.toInt) % 65536) ∧
  (∀ (base : Word) (off : BitVec 10),
      ((AddrMode.indexed.address base (sext16 off)).toNat : Int) = (base.toNat + off.toInt) % 65536 ∧
      ((AddrMode.postincrement.address base (sext16 off)).toNat : Int) = (base.toNat + off.toInt) % 65536 ∧
      ((AddrMode.predecrement.address base (sext16 off)).toNat : Int) = (base.toNat - off.toInt) % 65536)

/-- When the registers exist, ADD and SUB complete: Rd becomes the sum or difference modulo 2^16, carry becomes 1
exactly when the sum is at least 65536 or the subtrahend is greater, the pc advances by the length; every other
register, every byte, every status bit and the rest of the state are unchanged. d may equal a or b (R121, R122,
R186, R187). -/
def Obligations.AddSub : Prop :=
  (∀ (s : State) d a b, s.HasNamed (.add16 d a b) →
    ∃ t, exec (.add16 d a b) s = .next t ∧
      s.Becomes t [(regOf d, BitVec.ofInt 16 (s.int (regOf a) + s.int (regOf b)))] (decide (65536 ≤ s.int (regOf a) + s.int (regOf b))) (s.pc + 1) [] ∧ s.Quiet t) ∧
  (∀ (s : State) d a b, s.HasNamed (.sub16 d a b) →
    ∃ t, exec (.sub16 d a b) s = .next t ∧
      s.Becomes t [(regOf d, BitVec.ofInt 16 (s.int (regOf a) - s.int (regOf b)))] (decide (s.int (regOf a) < s.int (regOf b))) (s.pc + 1) [] ∧ s.Quiet t) ∧
  (∀ (s : State) d a b, s.HasNamed (.add32 d a b) →
    ∃ t, exec (.add32 d a b) s = .next t ∧
      s.Becomes t [(d, BitVec.ofInt 16 (s.int a + s.int b))] (decide (65536 ≤ s.int a + s.int b)) (s.pc + 2) [] ∧ s.Quiet t) ∧
  (∀ (s : State) d a b, s.HasNamed (.sub32 d a b) →
    ∃ t, exec (.sub32 d a b) s = .next t ∧
      s.Becomes t [(d, BitVec.ofInt 16 (s.int a - s.int b))] (decide (s.int a < s.int b)) (s.pc + 2) [] ∧ s.Quiet t)

/-- When the registers exist, ADDC and SUBC complete: the old carry enters the sum or is taken from the difference
over the integers, the result is stored modulo 2^16, carry becomes the carry out or borrow of the whole, the pc
advances by 2 and nothing else changes (R201, R202). -/
def Obligations.AddcSubc : Prop :=
  (∀ (s : State) d a b, s.HasNamed (.addc32 d a b) →
    ∃ t, exec (.addc32 d a b) s = .next t ∧
      s.Becomes t [(d, BitVec.ofInt 16 (s.int a + s.int b + (if s.carry then 1 else 0)))] (decide (65536 ≤ s.int a + s.int b + (if s.carry then 1 else 0))) (s.pc + 2) [] ∧ s.Quiet t) ∧
  (∀ (s : State) d a b, s.HasNamed (.subc32 d a b) →
    ∃ t, exec (.subc32 d a b) s = .next t ∧
      s.Becomes t [(d, BitVec.ofInt 16 (s.int a - s.int b - (if s.carry then 1 else 0)))] (decide (s.int a < s.int b + (if s.carry then 1 else 0))) (s.pc + 2) [] ∧ s.Quiet t)

/-- When the registers exist, they complete: Rd becomes Ra plus or minus the zero-extended constant modulo 2^16,
carry becomes the carry out or borrow, the pc advances by the length and nothing else changes (R130, R131, R195,
R196). -/
def Obligations.AddiSubi : Prop :=
  (∀ (s : State) d a imm, s.HasNamed (.addi16 d a imm) →
    ∃ t, exec (.addi16 d a imm) s = .next t ∧
      s.Becomes t [(regOf d, BitVec.ofInt 16 (s.int (regOf a) + imm.toNat))] (decide (65536 ≤ s.int (regOf a) + imm.toNat)) (s.pc + 1) [] ∧ s.Quiet t) ∧
  (∀ (s : State) d a imm, s.HasNamed (.subi16 d a imm) →
    ∃ t, exec (.subi16 d a imm) s = .next t ∧
      s.Becomes t [(regOf d, BitVec.ofInt 16 (s.int (regOf a) - imm.toNat))] (decide (s.int (regOf a) < imm.toNat)) (s.pc + 1) [] ∧ s.Quiet t) ∧
  (∀ (s : State) d a imm, s.HasNamed (.addi32 d a imm) →
    ∃ t, exec (.addi32 d a imm) s = .next t ∧
      s.Becomes t [(d, BitVec.ofInt 16 (s.int a + imm.toNat))] (decide (65536 ≤ s.int a + imm.toNat)) (s.pc + 2) [] ∧ s.Quiet t) ∧
  (∀ (s : State) d a imm, s.HasNamed (.subi32 d a imm) →
    ∃ t, exec (.subi32 d a imm) s = .next t ∧
      s.Becomes t [(d, BitVec.ofInt 16 (s.int a - imm.toNat))] (decide (s.int a < imm.toNat)) (s.pc + 2) [] ∧ s.Quiet t)

/-- When the registers exist, they complete: Rd becomes the bitwise result of Ra and Rb or the zero-extended
constant, carry stays, the pc advances by the length and nothing else changes (R123 to R125, R188 to R190, R203
to R205). -/
def Obligations.LogicResults : Prop :=
  (∀ (s : State) d a b, s.HasNamed (.and16 d a b) →
    ∃ t, exec (.and16 d a b) s = .next t ∧
      s.Becomes t [(regOf d, s.reg (regOf a) &&& s.reg (regOf b))] s.carry (s.pc + 1) [] ∧ s.Quiet t) ∧
  (∀ (s : State) d a b, s.HasNamed (.or16 d a b) →
    ∃ t, exec (.or16 d a b) s = .next t ∧
      s.Becomes t [(regOf d, s.reg (regOf a) ||| s.reg (regOf b))] s.carry (s.pc + 1) [] ∧ s.Quiet t) ∧
  (∀ (s : State) d a b, s.HasNamed (.xor16 d a b) →
    ∃ t, exec (.xor16 d a b) s = .next t ∧
      s.Becomes t [(regOf d, s.reg (regOf a) ^^^ s.reg (regOf b))] s.carry (s.pc + 1) [] ∧ s.Quiet t) ∧
  (∀ (s : State) d a b, s.HasNamed (.and32 d a b) →
    ∃ t, exec (.and32 d a b) s = .next t ∧
      s.Becomes t [(d, s.reg a &&& s.reg b)] s.carry (s.pc + 2) [] ∧ s.Quiet t) ∧
  (∀ (s : State) d a b, s.HasNamed (.or32 d a b) →
    ∃ t, exec (.or32 d a b) s = .next t ∧
      s.Becomes t [(d, s.reg a ||| s.reg b)] s.carry (s.pc + 2) [] ∧ s.Quiet t) ∧
  (∀ (s : State) d a b, s.HasNamed (.xor32 d a b) →
    ∃ t, exec (.xor32 d a b) s = .next t ∧
      s.Becomes t [(d, s.reg a ^^^ s.reg b)] s.carry (s.pc + 2) [] ∧ s.Quiet t) ∧
  (∀ (s : State) d a imm, s.HasNamed (.andi32 d a imm) →
    ∃ t, exec (.andi32 d a imm) s = .next t ∧
      s.Becomes t [(d, s.reg a &&& BitVec.ofNat 16 imm.toNat)] s.carry (s.pc + 2) [] ∧ s.Quiet t) ∧
  (∀ (s : State) d a imm, s.HasNamed (.ori32 d a imm) →
    ∃ t, exec (.ori32 d a imm) s = .next t ∧
      s.Becomes t [(d, s.reg a ||| BitVec.ofNat 16 imm.toNat)] s.carry (s.pc + 2) [] ∧ s.Quiet t) ∧
  (∀ (s : State) d a imm, s.HasNamed (.xori32 d a imm) →
    ∃ t, exec (.xori32 d a imm) s = .next t ∧
      s.Becomes t [(d, s.reg a ^^^ BitVec.ofNat 16 imm.toNat)] s.carry (s.pc + 2) [] ∧ s.Quiet t)

/-- When the registers exist, they complete: with n the whole value of Rb, ASR stores floor((carry * 65536 + Ra) /
2^n) modulo 2^16 and clears carry, LSL stores Ra * 2^n modulo 2^16, LSR stores floor(Ra / 2^n), both keeping
carry; the pc advances by the length and nothing else changes (R126 to R128, R191 to R193). -/
def Obligations.RegisterShifts : Prop :=
  (∀ (s : State) d a b, s.HasNamed (.asr16 d a b) →
    ∃ t, exec (.asr16 d a b) s = .next t ∧
      s.Becomes t [(regOf d, BitVec.ofInt 16 ((s.int (regOf a) + (if s.carry then 65536 else 0)) / 2 ^ (s.reg (regOf b)).toNat))] false (s.pc + 1) [] ∧ s.Quiet t) ∧
  (∀ (s : State) d a b, s.HasNamed (.lsl16 d a b) →
    ∃ t, exec (.lsl16 d a b) s = .next t ∧
      s.Becomes t [(regOf d, BitVec.ofInt 16 (s.int (regOf a) * 2 ^ (s.reg (regOf b)).toNat))] s.carry (s.pc + 1) [] ∧ s.Quiet t) ∧
  (∀ (s : State) d a b, s.HasNamed (.lsr16 d a b) →
    ∃ t, exec (.lsr16 d a b) s = .next t ∧
      s.Becomes t [(regOf d, BitVec.ofInt 16 (s.int (regOf a) / 2 ^ (s.reg (regOf b)).toNat))] s.carry (s.pc + 1) [] ∧ s.Quiet t) ∧
  (∀ (s : State) d a b, s.HasNamed (.asr32 d a b) →
    ∃ t, exec (.asr32 d a b) s = .next t ∧
      s.Becomes t [(d, BitVec.ofInt 16 ((s.int a + (if s.carry then 65536 else 0)) / 2 ^ (s.reg b).toNat))] false (s.pc + 2) [] ∧ s.Quiet t) ∧
  (∀ (s : State) d a b, s.HasNamed (.lsl32 d a b) →
    ∃ t, exec (.lsl32 d a b) s = .next t ∧
      s.Becomes t [(d, BitVec.ofInt 16 (s.int a * 2 ^ (s.reg b).toNat))] s.carry (s.pc + 2) [] ∧ s.Quiet t) ∧
  (∀ (s : State) d a b, s.HasNamed (.lsr32 d a b) →
    ∃ t, exec (.lsr32 d a b) s = .next t ∧
      s.Becomes t [(d, BitVec.ofInt 16 (s.int a / 2 ^ (s.reg b).toNat))] s.carry (s.pc + 2) [] ∧ s.Quiet t)

/-- When the registers exist, each of the six forms completes and shifts by its field value plus 1, with the results
and the carry of the register shifts; the amount is 1 to 8 for the 16-bit forms and 1 to 64 for the 32-bit
forms, never 0; the pc advances by the length and nothing else changes. -/
def Obligations.ShiftConstants : Prop :=
  (∀ imm : BitVec 3, 1 ≤ imm.toNat + 1 ∧ imm.toNat + 1 ≤ 8) ∧
  (∀ (s : State) d a imm, s.HasNamed (.asri16 d a imm) →
    ∃ t, exec (.asri16 d a imm) s = .next t ∧
      s.Becomes t [(regOf d, BitVec.ofInt 16 ((s.int (regOf a) + (if s.carry then 65536 else 0)) / 2 ^ (imm.toNat + 1)))] false (s.pc + 1) [] ∧ s.Quiet t) ∧
  (∀ (s : State) d a imm, s.HasNamed (.lsli16 d a imm) →
    ∃ t, exec (.lsli16 d a imm) s = .next t ∧
      s.Becomes t [(regOf d, BitVec.ofInt 16 (s.int (regOf a) * 2 ^ (imm.toNat + 1)))] s.carry (s.pc + 1) [] ∧ s.Quiet t) ∧
  (∀ (s : State) d a imm, s.HasNamed (.lsri16 d a imm) →
    ∃ t, exec (.lsri16 d a imm) s = .next t ∧
      s.Becomes t [(regOf d, BitVec.ofInt 16 (s.int (regOf a) / 2 ^ (imm.toNat + 1)))] s.carry (s.pc + 1) [] ∧ s.Quiet t) ∧
  (∀ imm : BitVec 6, 1 ≤ imm.toNat + 1 ∧ imm.toNat + 1 ≤ 64) ∧
  (∀ (s : State) d a imm, s.HasNamed (.asri32 d a imm) →
    ∃ t, exec (.asri32 d a imm) s = .next t ∧
      s.Becomes t [(d, BitVec.ofInt 16 ((s.int a + (if s.carry then 65536 else 0)) / 2 ^ (imm.toNat + 1)))] false (s.pc + 2) [] ∧ s.Quiet t) ∧
  (∀ (s : State) d a imm, s.HasNamed (.lsli32 d a imm) →
    ∃ t, exec (.lsli32 d a imm) s = .next t ∧
      s.Becomes t [(d, BitVec.ofInt 16 (s.int a * 2 ^ (imm.toNat + 1)))] s.carry (s.pc + 2) [] ∧ s.Quiet t) ∧
  (∀ (s : State) d a imm, s.HasNamed (.lsri32 d a imm) →
    ∃ t, exec (.lsri32 d a imm) s = .next t ∧
      s.Becomes t [(d, BitVec.ofInt 16 (s.int a / 2 ^ (imm.toNat + 1)))] s.carry (s.pc + 2) [] ∧ s.Quiet t)

/-- When the registers exist, they complete; carry stays, the pc advances by the length and nothing else changes. R0
is written like any other register (R129, R135, R194, R200, R21). -/
def Obligations.MoveResults : Prop :=
  (∀ (s : State) d a, s.HasNamed (.mov16 d a) →
    ∃ t, exec (.mov16 d a) s = .next t ∧
      s.Becomes t [(regOf d, s.reg (regOf a))] s.carry (s.pc + 1) [] ∧ s.Quiet t) ∧
  (∀ (s : State) d imm, s.HasNamed (.movi16 d imm) →
    ∃ t, exec (.movi16 d imm) s = .next t ∧
      s.Becomes t [(regOf d, BitVec.ofNat 16 imm.toNat)] s.carry (s.pc + 1) [] ∧ s.Quiet t) ∧
  (∀ (s : State) d a, s.HasNamed (.mov32 d a) →
    ∃ t, exec (.mov32 d a) s = .next t ∧
      s.Becomes t [(d, s.reg a)] s.carry (s.pc + 2) [] ∧ s.Quiet t) ∧
  (∀ (s : State) d imm, s.HasNamed (.movi32 d imm) →
    ∃ t, exec (.movi32 d imm) s = .next t ∧
      s.Becomes t [(d, BitVec.ofNat 16 imm.toNat)] s.carry (s.pc + 2) [] ∧ s.Quiet t)

/-- Whatever its register d is, if it exists, NOP completes with the pc advanced by 1 and no register, flag or byte
changed; constant 0 halts, 2 exits with the whole of Rd, 3 and 4 append the low byte of Rd to standard output or
standard error, and 5 to 63 do nothing (R120, R292 to R297; D10, D12, D13, D14, D30, log entry 19). Constant 1
is the claim NopOne. -/
def Obligations.Nop16 : Prop :=
  (∀ (s : State) d, s.HasNamed (.nop16 d 0) →
    ∃ t, exec (.nop16 d 0) s = .next t ∧
      s.Becomes t [] s.carry (s.pc + 1) [] ∧ t.run = .halted ∧
      t.stdout = s.stdout ∧ t.stderr = s.stderr ∧ t.busErrors = s.busErrors) ∧
  (∀ (s : State) d, s.HasNamed (.nop16 d 2) →
    ∃ t, exec (.nop16 d 2) s = .next t ∧
      s.Becomes t [] s.carry (s.pc + 1) [] ∧ t.run = .exited (s.reg (regOf d)) ∧
      t.stdout = s.stdout ∧ t.stderr = s.stderr ∧ t.busErrors = s.busErrors) ∧
  (∀ (s : State) d, s.HasNamed (.nop16 d 3) →
    ∃ t, exec (.nop16 d 3) s = .next t ∧
      s.Becomes t [] s.carry (s.pc + 1) [] ∧ t.run = s.run ∧
      t.stdout = s.stdout ++ [(s.reg (regOf d)).extractLsb' 0 8] ∧ t.stderr = s.stderr ∧ t.busErrors = s.busErrors) ∧
  (∀ (s : State) d, s.HasNamed (.nop16 d 4) →
    ∃ t, exec (.nop16 d 4) s = .next t ∧
      s.Becomes t [] s.carry (s.pc + 1) [] ∧ t.run = s.run ∧
      t.stdout = s.stdout ∧ t.stderr = s.stderr ++ [(s.reg (regOf d)).extractLsb' 0 8] ∧ t.busErrors = s.busErrors) ∧
  (∀ (s : State) d imm, s.HasNamed (.nop16 d imm) → 5 ≤ imm.toNat →
    ∃ t, exec (.nop16 d imm) s = .next t ∧
      s.Becomes t [] s.carry (s.pc + 1) [] ∧ s.Quiet t)

/-- For every existing register d the 16-bit NOP with constant 1 completes, the pc advances by 1 modulo 2^24 and
nothing else changes; the word 0x0001 is NOP R0,1. -/
def Obligations.NopOne : Prop :=
  (∀ (s : State) d, s.HasNamed (.nop16 d 1) →
    ∃ t, exec (.nop16 d 1) s = .next t ∧
      s.Becomes t [] s.carry (s.pc + 1) [] ∧ s.Quiet t) ∧
  (decode [0x0001] = .ok (.nop16 0 1))

/-- With constant 1 or from 5 on it only advances the pc by 2 under every setting; so it does with every constant
under the setting none; under as16 the constants 0, 2, 3 and 4 have the side effects of the 16-bit NOP; under
refuse these four fault with ReservedInstruction (R185, R298, D11). The setting that State.reset takes is not
claimed here (log entry 8). -/
def Obligations.Nop32 : Prop :=
  (∀ (s : State) d imm, s.HasNamed (.nop32 d imm) → imm.toNat = 1 ∨ 5 ≤ imm.toNat →
    ∃ t, exec (.nop32 d imm) s = .next t ∧
      s.Becomes t [] s.carry (s.pc + 2) [] ∧ s.Quiet t) ∧
  (∀ (s : State) d imm, s.HasNamed (.nop32 d imm) → s.config.nop32 = .none →
    ∃ t, exec (.nop32 d imm) s = .next t ∧
      s.Becomes t [] s.carry (s.pc + 2) [] ∧ s.Quiet t) ∧
  (∀ (s : State) d, s.HasNamed (.nop32 d 0) → s.config.nop32 = .as16 →
    ∃ t, exec (.nop32 d 0) s = .next t ∧
      s.Becomes t [] s.carry (s.pc + 2) [] ∧ t.run = .halted ∧
      t.stdout = s.stdout ∧ t.stderr = s.stderr ∧ t.busErrors = s.busErrors) ∧
  (∀ (s : State) d, s.HasNamed (.nop32 d 2) → s.config.nop32 = .as16 →
    ∃ t, exec (.nop32 d 2) s = .next t ∧
      s.Becomes t [] s.carry (s.pc + 2) [] ∧ t.run = .exited (s.reg d) ∧
      t.stdout = s.stdout ∧ t.stderr = s.stderr ∧ t.busErrors = s.busErrors) ∧
  (∀ (s : State) d, s.HasNamed (.nop32 d 3) → s.config.nop32 = .as16 →
    ∃ t, exec (.nop32 d 3) s = .next t ∧
      s.Becomes t [] s.carry (s.pc + 2) [] ∧ t.run = s.run ∧
      t.stdout = s.stdout ++ [(s.reg d).extractLsb' 0 8] ∧ t.stderr = s.stderr ∧ t.busErrors = s.busErrors) ∧
  (∀ (s : State) d, s.HasNamed (.nop32 d 4) → s.config.nop32 = .as16 →
    ∃ t, exec (.nop32 d 4) s = .next t ∧
      s.Becomes t [] s.carry (s.pc + 2) [] ∧ t.run = s.run ∧
      t.stdout = s.stdout ∧ t.stderr = s.stderr ++ [(s.reg d).extractLsb' 0 8] ∧ t.busErrors = s.busErrors) ∧
  (∀ (s : State) d imm, s.config.nop32 = .refuse → imm.toNat ≠ 1 → imm.toNat < 5 →
    exec (.nop32 d imm) s = .fault (.reservedInstruction .nop32Refused))

/-- When the registers exist and the bytes at the address exist and hold values, the load completes: the address is
base + S, the base register is kept; Rd becomes the byte or the low byte plus 256 times the high byte; carry
stays, the pc advances by the length, no byte of memory and nothing else changes (R140, R141, R210, R211, R152,
R57). -/
def Obligations.LoadIndexed : Prop :=
  (∀ (s : State) d a off lo, s.HasNamed (.ldb16 d a off) →
    s.Holds (AddrMode.indexed.address (s.reg (regOf a)) (sext16 off)) lo →
    ∃ t, exec (.ldb16 d a off) s = .next t ∧
      s.Becomes t [(regOf d, BitVec.ofNat 16 lo.toNat)] s.carry (s.pc + 1) [] ∧ s.Quiet t) ∧
  (∀ (s : State) d a off lo hi, s.HasNamed (.ldw16 d a off) →
    s.Holds (AddrMode.indexed.address (s.reg (regOf a)) (sext16 off)) lo →
    s.Holds ((AddrMode.indexed.address (s.reg (regOf a)) (sext16 off)) + 1) hi →
    ∃ t, exec (.ldw16 d a off) s = .next t ∧
      s.Becomes t [(regOf d, BitVec.ofNat 16 (lo.toNat + 256 * hi.toNat))] s.carry (s.pc + 1) [] ∧ s.Quiet t) ∧
  (∀ (s : State) d a off lo, s.HasNamed (.ldb32 d a off) →
    s.Holds (AddrMode.indexed.address (s.reg a) (sext16 off)) lo →
    ∃ t, exec (.ldb32 d a off) s = .next t ∧
      s.Becomes t [(d, BitVec.ofNat 16 lo.toNat)] s.carry (s.pc + 2) [] ∧ s.Quiet t) ∧
  (∀ (s : State) d a off lo hi, s.HasNamed (.ldw32 d a off) →
    s.Holds (AddrMode.indexed.address (s.reg a) (sext16 off)) lo →
    s.Holds ((AddrMode.indexed.address (s.reg a) (sext16 off)) + 1) hi →
    ∃ t, exec (.ldw32 d a off) s = .next t ∧
      s.Becomes t [(d, BitVec.ofNat 16 (lo.toNat + 256 * hi.toNat))] s.carry (s.pc + 2) [] ∧ s.Quiet t)

/-- When the registers exist and the bytes at the address exist and hold values, the load completes: the address is
base + S, and the base register becomes that address; d and a differ; Rd becomes the byte or the low byte plus
256 times the high byte; carry stays, the pc advances by the length, no byte of memory and nothing else changes
(R142, R143, R212, R213, R152, R57). -/
def Obligations.LoadPostincrement : Prop :=
  (∀ (s : State) d a off lo, s.HasNamed (.ldbPost16 d a off) → (regOf d) ≠ (regOf a) →
    s.Holds (AddrMode.postincrement.address (s.reg (regOf a)) (sext16 off)) lo →
    ∃ t, exec (.ldbPost16 d a off) s = .next t ∧
      s.Becomes t [(regOf a, (AddrMode.postincrement.address (s.reg (regOf a)) (sext16 off))), (regOf d, BitVec.ofNat 16 lo.toNat)] s.carry (s.pc + 1) [] ∧ s.Quiet t) ∧
  (∀ (s : State) d a off lo hi, s.HasNamed (.ldwPost16 d a off) → (regOf d) ≠ (regOf a) →
    s.Holds (AddrMode.postincrement.address (s.reg (regOf a)) (sext16 off)) lo →
    s.Holds ((AddrMode.postincrement.address (s.reg (regOf a)) (sext16 off)) + 1) hi →
    ∃ t, exec (.ldwPost16 d a off) s = .next t ∧
      s.Becomes t [(regOf a, (AddrMode.postincrement.address (s.reg (regOf a)) (sext16 off))), (regOf d, BitVec.ofNat 16 (lo.toNat + 256 * hi.toNat))] s.carry (s.pc + 1) [] ∧ s.Quiet t) ∧
  (∀ (s : State) d a off lo, s.HasNamed (.ldbPost32 d a off) → d ≠ a →
    s.Holds (AddrMode.postincrement.address (s.reg a) (sext16 off)) lo →
    ∃ t, exec (.ldbPost32 d a off) s = .next t ∧
      s.Becomes t [(a, (AddrMode.postincrement.address (s.reg a) (sext16 off))), (d, BitVec.ofNat 16 lo.toNat)] s.carry (s.pc + 2) [] ∧ s.Quiet t) ∧
  (∀ (s : State) d a off lo hi, s.HasNamed (.ldwPost32 d a off) → d ≠ a →
    s.Holds (AddrMode.postincrement.address (s.reg a) (sext16 off)) lo →
    s.Holds ((AddrMode.postincrement.address (s.reg a) (sext16 off)) + 1) hi →
    ∃ t, exec (.ldwPost32 d a off) s = .next t ∧
      s.Becomes t [(a, (AddrMode.postincrement.address (s.reg a) (sext16 off))), (d, BitVec.ofNat 16 (lo.toNat + 256 * hi.toNat))] s.carry (s.pc + 2) [] ∧ s.Quiet t)

/-- When the registers exist and the bytes at the address exist and hold values, the load completes: the address is
base - S, and the base register becomes that address; d and a differ; Rd becomes the byte or the low byte plus
256 times the high byte; carry stays, the pc advances by the length, no byte of memory and nothing else changes
(R144, R145, R214, R215, R152, R57). -/
def Obligations.LoadPredecrement : Prop :=
  (∀ (s : State) d a off lo, s.HasNamed (.ldbPre16 d a off) → (regOf d) ≠ (regOf a) →
    s.Holds (AddrMode.predecrement.address (s.reg (regOf a)) (sext16 off)) lo →
    ∃ t, exec (.ldbPre16 d a off) s = .next t ∧
      s.Becomes t [(regOf a, (AddrMode.predecrement.address (s.reg (regOf a)) (sext16 off))), (regOf d, BitVec.ofNat 16 lo.toNat)] s.carry (s.pc + 1) [] ∧ s.Quiet t) ∧
  (∀ (s : State) d a off lo hi, s.HasNamed (.ldwPre16 d a off) → (regOf d) ≠ (regOf a) →
    s.Holds (AddrMode.predecrement.address (s.reg (regOf a)) (sext16 off)) lo →
    s.Holds ((AddrMode.predecrement.address (s.reg (regOf a)) (sext16 off)) + 1) hi →
    ∃ t, exec (.ldwPre16 d a off) s = .next t ∧
      s.Becomes t [(regOf a, (AddrMode.predecrement.address (s.reg (regOf a)) (sext16 off))), (regOf d, BitVec.ofNat 16 (lo.toNat + 256 * hi.toNat))] s.carry (s.pc + 1) [] ∧ s.Quiet t) ∧
  (∀ (s : State) d a off lo, s.HasNamed (.ldbPre32 d a off) → d ≠ a →
    s.Holds (AddrMode.predecrement.address (s.reg a) (sext16 off)) lo →
    ∃ t, exec (.ldbPre32 d a off) s = .next t ∧
      s.Becomes t [(a, (AddrMode.predecrement.address (s.reg a) (sext16 off))), (d, BitVec.ofNat 16 lo.toNat)] s.carry (s.pc + 2) [] ∧ s.Quiet t) ∧
  (∀ (s : State) d a off lo hi, s.HasNamed (.ldwPre32 d a off) → d ≠ a →
    s.Holds (AddrMode.predecrement.address (s.reg a) (sext16 off)) lo →
    s.Holds ((AddrMode.predecrement.address (s.reg a) (sext16 off)) + 1) hi →
    ∃ t, exec (.ldwPre32 d a off) s = .next t ∧
      s.Becomes t [(a, (AddrMode.predecrement.address (s.reg a) (sext16 off))), (d, BitVec.ofNat 16 (lo.toNat + 256 * hi.toNat))] s.carry (s.pc + 2) [] ∧ s.Quiet t)

/-- When the registers and the touched bytes exist, the store completes: the address is base + S, the base register
is kept; the byte there becomes Ra[7:0], for a word the next byte Ra[15:8]; every other byte and register, carry
and the rest are unchanged and the pc advances by the length (R146, R147, R216, R217, R152). -/
def Obligations.StoreIndexed : Prop :=
  (∀ (s : State) d off a, s.HasNamed (.stb16 d off a) →
    s.hasDataByte (AddrMode.indexed.address (s.reg (regOf d)) (sext16 off)) = true →
    ∃ t, exec (.stb16 d off a) s = .next t ∧
      s.Becomes t [] s.carry (s.pc + 1) 
        [((AddrMode.indexed.address (s.reg (regOf d)) (sext16 off)), (s.reg (regOf a)).extractLsb' 0 8)] ∧ s.Quiet t) ∧
  (∀ (s : State) d off a, s.HasNamed (.stw16 d off a) →
    s.hasDataByte (AddrMode.indexed.address (s.reg (regOf d)) (sext16 off)) = true →
    s.hasDataByte ((AddrMode.indexed.address (s.reg (regOf d)) (sext16 off)) + 1) = true →
    ∃ t, exec (.stw16 d off a) s = .next t ∧
      s.Becomes t [] s.carry (s.pc + 1) 
        [((AddrMode.indexed.address (s.reg (regOf d)) (sext16 off)), (s.reg (regOf a)).extractLsb' 0 8),
        ((AddrMode.indexed.address (s.reg (regOf d)) (sext16 off)) + 1, (s.reg (regOf a)).extractLsb' 8 8)] ∧ s.Quiet t) ∧
  (∀ (s : State) d off a, s.HasNamed (.stb32 d off a) →
    s.hasDataByte (AddrMode.indexed.address (s.reg d) (sext16 off)) = true →
    ∃ t, exec (.stb32 d off a) s = .next t ∧
      s.Becomes t [] s.carry (s.pc + 2) 
        [((AddrMode.indexed.address (s.reg d) (sext16 off)), (s.reg a).extractLsb' 0 8)] ∧ s.Quiet t) ∧
  (∀ (s : State) d off a, s.HasNamed (.stw32 d off a) →
    s.hasDataByte (AddrMode.indexed.address (s.reg d) (sext16 off)) = true →
    s.hasDataByte ((AddrMode.indexed.address (s.reg d) (sext16 off)) + 1) = true →
    ∃ t, exec (.stw32 d off a) s = .next t ∧
      s.Becomes t [] s.carry (s.pc + 2) 
        [((AddrMode.indexed.address (s.reg d) (sext16 off)), (s.reg a).extractLsb' 0 8),
        ((AddrMode.indexed.address (s.reg d) (sext16 off)) + 1, (s.reg a).extractLsb' 8 8)] ∧ s.Quiet t)

/-- When the registers and the touched bytes exist, the store completes: the address is base + S, and the base
register becomes that address; with d = a the old value is stored; the byte there becomes Ra[7:0], for a word
the next byte Ra[15:8]; every other byte and register, carry and the rest are unchanged and the pc advances by
the length (R148, R149, R218, R219, R152). -/
def Obligations.StorePostincrement : Prop :=
  (∀ (s : State) d off a, s.HasNamed (.stbPost16 d off a) →
    s.hasDataByte (AddrMode.postincrement.address (s.reg (regOf d)) (sext16 off)) = true →
    ∃ t, exec (.stbPost16 d off a) s = .next t ∧
      s.Becomes t [(regOf d, (AddrMode.postincrement.address (s.reg (regOf d)) (sext16 off)))] s.carry (s.pc + 1) 
        [((AddrMode.postincrement.address (s.reg (regOf d)) (sext16 off)), (s.reg (regOf a)).extractLsb' 0 8)] ∧ s.Quiet t) ∧
  (∀ (s : State) d off a, s.HasNamed (.stwPost16 d off a) →
    s.hasDataByte (AddrMode.postincrement.address (s.reg (regOf d)) (sext16 off)) = true →
    s.hasDataByte ((AddrMode.postincrement.address (s.reg (regOf d)) (sext16 off)) + 1) = true →
    ∃ t, exec (.stwPost16 d off a) s = .next t ∧
      s.Becomes t [(regOf d, (AddrMode.postincrement.address (s.reg (regOf d)) (sext16 off)))] s.carry (s.pc + 1) 
        [((AddrMode.postincrement.address (s.reg (regOf d)) (sext16 off)), (s.reg (regOf a)).extractLsb' 0 8),
        ((AddrMode.postincrement.address (s.reg (regOf d)) (sext16 off)) + 1, (s.reg (regOf a)).extractLsb' 8 8)] ∧ s.Quiet t) ∧
  (∀ (s : State) d off a, s.HasNamed (.stbPost32 d off a) →
    s.hasDataByte (AddrMode.postincrement.address (s.reg d) (sext16 off)) = true →
    ∃ t, exec (.stbPost32 d off a) s = .next t ∧
      s.Becomes t [(d, (AddrMode.postincrement.address (s.reg d) (sext16 off)))] s.carry (s.pc + 2) 
        [((AddrMode.postincrement.address (s.reg d) (sext16 off)), (s.reg a).extractLsb' 0 8)] ∧ s.Quiet t) ∧
  (∀ (s : State) d off a, s.HasNamed (.stwPost32 d off a) →
    s.hasDataByte (AddrMode.postincrement.address (s.reg d) (sext16 off)) = true →
    s.hasDataByte ((AddrMode.postincrement.address (s.reg d) (sext16 off)) + 1) = true →
    ∃ t, exec (.stwPost32 d off a) s = .next t ∧
      s.Becomes t [(d, (AddrMode.postincrement.address (s.reg d) (sext16 off)))] s.carry (s.pc + 2) 
        [((AddrMode.postincrement.address (s.reg d) (sext16 off)), (s.reg a).extractLsb' 0 8),
        ((AddrMode.postincrement.address (s.reg d) (sext16 off)) + 1, (s.reg a).extractLsb' 8 8)] ∧ s.Quiet t)

/-- When the registers and the touched bytes exist, the store completes: the address is base - S, and the base
register becomes that address; d and a differ; the byte there becomes Ra[7:0], for a word the next byte
Ra[15:8]; every other byte and register, carry and the rest are unchanged and the pc advances by the length
(R150, R151, R220, R221, R152). -/
def Obligations.StorePredecrement : Prop :=
  (∀ (s : State) d off a, s.HasNamed (.stbPre16 d off a) → (regOf d) ≠ (regOf a) →
    s.hasDataByte (AddrMode.predecrement.address (s.reg (regOf d)) (sext16 off)) = true →
    ∃ t, exec (.stbPre16 d off a) s = .next t ∧
      s.Becomes t [(regOf d, (AddrMode.predecrement.address (s.reg (regOf d)) (sext16 off)))] s.carry (s.pc + 1) 
        [((AddrMode.predecrement.address (s.reg (regOf d)) (sext16 off)), (s.reg (regOf a)).extractLsb' 0 8)] ∧ s.Quiet t) ∧
  (∀ (s : State) d off a, s.HasNamed (.stwPre16 d off a) → (regOf d) ≠ (regOf a) →
    s.hasDataByte (AddrMode.predecrement.address (s.reg (regOf d)) (sext16 off)) = true →
    s.hasDataByte ((AddrMode.predecrement.address (s.reg (regOf d)) (sext16 off)) + 1) = true →
    ∃ t, exec (.stwPre16 d off a) s = .next t ∧
      s.Becomes t [(regOf d, (AddrMode.predecrement.address (s.reg (regOf d)) (sext16 off)))] s.carry (s.pc + 1) 
        [((AddrMode.predecrement.address (s.reg (regOf d)) (sext16 off)), (s.reg (regOf a)).extractLsb' 0 8),
        ((AddrMode.predecrement.address (s.reg (regOf d)) (sext16 off)) + 1, (s.reg (regOf a)).extractLsb' 8 8)] ∧ s.Quiet t) ∧
  (∀ (s : State) d off a, s.HasNamed (.stbPre32 d off a) → d ≠ a →
    s.hasDataByte (AddrMode.predecrement.address (s.reg d) (sext16 off)) = true →
    ∃ t, exec (.stbPre32 d off a) s = .next t ∧
      s.Becomes t [(d, (AddrMode.predecrement.address (s.reg d) (sext16 off)))] s.carry (s.pc + 2) 
        [((AddrMode.predecrement.address (s.reg d) (sext16 off)), (s.reg a).extractLsb' 0 8)] ∧ s.Quiet t) ∧
  (∀ (s : State) d off a, s.HasNamed (.stwPre32 d off a) → d ≠ a →
    s.hasDataByte (AddrMode.predecrement.address (s.reg d) (sext16 off)) = true →
    s.hasDataByte ((AddrMode.predecrement.address (s.reg d) (sext16 off)) + 1) = true →
    ∃ t, exec (.stwPre32 d off a) s = .next t ∧
      s.Becomes t [(d, (AddrMode.predecrement.address (s.reg d) (sext16 off)))] s.carry (s.pc + 2) 
        [((AddrMode.predecrement.address (s.reg d) (sext16 off)), (s.reg a).extractLsb' 0 8),
        ((AddrMode.predecrement.address (s.reg d) (sext16 off)) + 1, (s.reg a).extractLsb' 8 8)] ∧ s.Quiet t)

/-- BRA always completes, BAL when its link register exists: the pc becomes the address of the branch itself plus
the sign-extended offset modulo 2^24; BAL sets Rb to the low 16 bits of the address of the next instruction;
nothing else changes (R160, R161, R230, R231). -/
def Obligations.BraBal : Prop :=
  (∀ (s : State) off,
    ∃ t, exec (.bra16 off) s = .next t ∧
      s.Becomes t [] s.carry (s.pc + off.signExtend 24) [] ∧ s.Quiet t) ∧
  (∀ (s : State) off b, s.HasNamed (.bal16 off b) →
    ∃ t, exec (.bal16 off b) s = .next t ∧
      s.Becomes t [(regOf b, BitVec.ofNat 16 (s.pc + 1).toNat)] s.carry (s.pc + off.signExtend 24) [] ∧ s.Quiet t) ∧
  (∀ (s : State) off,
    ∃ t, exec (.bra32 off) s = .next t ∧
      s.Becomes t [] s.carry (s.pc + off.signExtend 24) [] ∧ s.Quiet t) ∧
  (∀ (s : State) off b, s.HasNamed (.bal32 off b) →
    ∃ t, exec (.bal32 off b) s = .next t ∧
      s.Becomes t [(b, BitVec.ofNat 16 (s.pc + 2).toNat)] s.carry (s.pc + off.signExtend 24) [] ∧ s.Quiet t)

/-- When the registers exist, each completes: if its comparison of Ra with Rb holds (equality, or order of the
signed or unsigned values) the pc becomes the branch's own address plus the offset, else it advances by the
length; nothing else changes (R162 to R167, R232 to R237, R176). -/
def Obligations.ConditionalBranches : Prop :=
  (∀ (s : State) off a b, s.HasNamed (.beq16 off a b) →
    ∃ t, exec (.beq16 off a b) s = .next t ∧
      s.Becomes t [] s.carry (if s.reg (regOf a) = s.reg (regOf b) then s.pc + off.signExtend 24 else s.pc + 1) [] ∧ s.Quiet t) ∧
  (∀ (s : State) off a b, s.HasNamed (.bne16 off a b) →
    ∃ t, exec (.bne16 off a b) s = .next t ∧
      s.Becomes t [] s.carry (if s.reg (regOf a) ≠ s.reg (regOf b) then s.pc + off.signExtend 24 else s.pc + 1) [] ∧ s.Quiet t) ∧
  (∀ (s : State) off a b, s.HasNamed (.blts16 off a b) →
    ∃ t, exec (.blts16 off a b) s = .next t ∧
      s.Becomes t [] s.carry (if s.signed (regOf a) < s.signed (regOf b) then s.pc + off.signExtend 24 else s.pc + 1) [] ∧ s.Quiet t) ∧
  (∀ (s : State) off a b, s.HasNamed (.bles16 off a b) →
    ∃ t, exec (.bles16 off a b) s = .next t ∧
      s.Becomes t [] s.carry (if s.signed (regOf a) ≤ s.signed (regOf b) then s.pc + off.signExtend 24 else s.pc + 1) [] ∧ s.Quiet t) ∧
  (∀ (s : State) off a b, s.HasNamed (.bltu16 off a b) →
    ∃ t, exec (.bltu16 off a b) s = .next t ∧
      s.Becomes t [] s.carry (if s.int (regOf a) < s.int (regOf b) then s.pc + off.signExtend 24 else s.pc + 1) [] ∧ s.Quiet t) ∧
  (∀ (s : State) off a b, s.HasNamed (.bleu16 off a b) →
    ∃ t, exec (.bleu16 off a b) s = .next t ∧
      s.Becomes t [] s.carry (if s.int (regOf a) ≤ s.int (regOf b) then s.pc + off.signExtend 24 else s.pc + 1) [] ∧ s.Quiet t) ∧
  (∀ (s : State) off a b, s.HasNamed (.beq32 off a b) →
    ∃ t, exec (.beq32 off a b) s = .next t ∧
      s.Becomes t [] s.carry (if s.reg a = s.reg b then s.pc + off.signExtend 24 else s.pc + 2) [] ∧ s.Quiet t) ∧
  (∀ (s : State) off a b, s.HasNamed (.bne32 off a b) →
    ∃ t, exec (.bne32 off a b) s = .next t ∧
      s.Becomes t [] s.carry (if s.reg a ≠ s.reg b then s.pc + off.signExtend 24 else s.pc + 2) [] ∧ s.Quiet t) ∧
  (∀ (s : State) off a b, s.HasNamed (.blts32 off a b) →
    ∃ t, exec (.blts32 off a b) s = .next t ∧
      s.Becomes t [] s.carry (if s.signed a < s.signed b then s.pc + off.signExtend 24 else s.pc + 2) [] ∧ s.Quiet t) ∧
  (∀ (s : State) off a b, s.HasNamed (.bles32 off a b) →
    ∃ t, exec (.bles32 off a b) s = .next t ∧
      s.Becomes t [] s.carry (if s.signed a ≤ s.signed b then s.pc + off.signExtend 24 else s.pc + 2) [] ∧ s.Quiet t) ∧
  (∀ (s : State) off a b, s.HasNamed (.bltu32 off a b) →
    ∃ t, exec (.bltu32 off a b) s = .next t ∧
      s.Becomes t [] s.carry (if s.int a < s.int b then s.pc + off.signExtend 24 else s.pc + 2) [] ∧ s.Quiet t) ∧
  (∀ (s : State) off a b, s.HasNamed (.bleu32 off a b) →
    ∃ t, exec (.bleu32 off a b) s = .next t ∧
      s.Becomes t [] s.carry (if s.int a ≤ s.int b then s.pc + off.signExtend 24 else s.pc + 2) [] ∧ s.Quiet t)

/-- When the register exists, they complete: the pc is Rd with bits 23..16 zero and nothing else changes; RTE
restores no status and no mode, there being none saved (R168, R180, R238, R289). -/
def Obligations.JmpRte : Prop :=
  (∀ (s : State) d, s.HasNamed (.jmp16 d) →
    ∃ t, exec (.jmp16 d) s = .next t ∧
      s.Becomes t [] s.carry (BitVec.ofNat 24 (s.reg (regOf d)).toNat) [] ∧ s.Quiet t) ∧
  (∀ (s : State) d, s.HasNamed (.jmp32 d) →
    ∃ t, exec (.jmp32 d) s = .next t ∧
      s.Becomes t [] s.carry (BitVec.ofNat 24 (s.reg d).toNat) [] ∧ s.Quiet t) ∧
  (∀ (s : State) d, s.HasNamed (.rte16 d) →
    ∃ t, exec (.rte16 d) s = .next t ∧
      s.Becomes t [] s.carry (BitVec.ofNat 24 (s.reg (regOf d)).toNat) [] ∧ s.Quiet t)

/-- When the registers exist and differ, JAL completes: Rb becomes the low 16 bits of the address of the next
instruction, the pc becomes Rd zero-extended, and nothing else changes (R169, R239). With d = b it faults: the
claim UnspecifiedOverlaps. -/
def Obligations.JumpAndLink : Prop :=
  (∀ (s : State) d b, s.HasNamed (.jal16 d b) → (regOf d) ≠ (regOf b) →
    ∃ t, exec (.jal16 d b) s = .next t ∧
      s.Becomes t [(regOf b, BitVec.ofNat 16 (s.pc + 1).toNat)] s.carry (BitVec.ofNat 24 (s.reg (regOf d)).toNat) [] ∧ s.Quiet t) ∧
  (∀ (s : State) d b, s.HasNamed (.jal32 d b) → d ≠ b →
    ∃ t, exec (.jal32 d b) s = .next t ∧
      s.Becomes t [(b, BitVec.ofNat 16 (s.pc + 2).toNat)] s.carry (BitVec.ofNat 24 (s.reg d).toNat) [] ∧ s.Quiet t)

/-- When the registers exist, each completes: if its comparison of Ra with Rb holds the pc becomes Rd zero-extended,
else it advances by the length; nothing else changes (R170 to R175, R240 to R245, R176). -/
def Obligations.ConditionalJumps : Prop :=
  (∀ (s : State) d a b, s.HasNamed (.jeq16 d a b) →
    ∃ t, exec (.jeq16 d a b) s = .next t ∧
      s.Becomes t [] s.carry (if s.reg (regOf a) = s.reg (regOf b) then BitVec.ofNat 24 (s.reg (regOf d)).toNat else s.pc + 1) [] ∧ s.Quiet t) ∧
  (∀ (s : State) d a b, s.HasNamed (.jne16 d a b) →
    ∃ t, exec (.jne16 d a b) s = .next t ∧
      s.Becomes t [] s.carry (if s.reg (regOf a) ≠ s.reg (regOf b) then BitVec.ofNat 24 (s.reg (regOf d)).toNat else s.pc + 1) [] ∧ s.Quiet t) ∧
  (∀ (s : State) d a b, s.HasNamed (.jlts16 d a b) →
    ∃ t, exec (.jlts16 d a b) s = .next t ∧
      s.Becomes t [] s.carry (if s.signed (regOf a) < s.signed (regOf b) then BitVec.ofNat 24 (s.reg (regOf d)).toNat else s.pc + 1) [] ∧ s.Quiet t) ∧
  (∀ (s : State) d a b, s.HasNamed (.jles16 d a b) →
    ∃ t, exec (.jles16 d a b) s = .next t ∧
      s.Becomes t [] s.carry (if s.signed (regOf a) ≤ s.signed (regOf b) then BitVec.ofNat 24 (s.reg (regOf d)).toNat else s.pc + 1) [] ∧ s.Quiet t) ∧
  (∀ (s : State) d a b, s.HasNamed (.jltu16 d a b) →
    ∃ t, exec (.jltu16 d a b) s = .next t ∧
      s.Becomes t [] s.carry (if s.int (regOf a) < s.int (regOf b) then BitVec.ofNat 24 (s.reg (regOf d)).toNat else s.pc + 1) [] ∧ s.Quiet t) ∧
  (∀ (s : State) d a b, s.HasNamed (.jleu16 d a b) →
    ∃ t, exec (.jleu16 d a b) s = .next t ∧
      s.Becomes t [] s.carry (if s.int (regOf a) ≤ s.int (regOf b) then BitVec.ofNat 24 (s.reg (regOf d)).toNat else s.pc + 1) [] ∧ s.Quiet t) ∧
  (∀ (s : State) d a b, s.HasNamed (.jeq32 d a b) →
    ∃ t, exec (.jeq32 d a b) s = .next t ∧
      s.Becomes t [] s.carry (if s.reg a = s.reg b then BitVec.ofNat 24 (s.reg d).toNat else s.pc + 2) [] ∧ s.Quiet t) ∧
  (∀ (s : State) d a b, s.HasNamed (.jne32 d a b) →
    ∃ t, exec (.jne32 d a b) s = .next t ∧
      s.Becomes t [] s.carry (if s.reg a ≠ s.reg b then BitVec.ofNat 24 (s.reg d).toNat else s.pc + 2) [] ∧ s.Quiet t) ∧
  (∀ (s : State) d a b, s.HasNamed (.jlts32 d a b) →
    ∃ t, exec (.jlts32 d a b) s = .next t ∧
      s.Becomes t [] s.carry (if s.signed a < s.signed b then BitVec.ofNat 24 (s.reg d).toNat else s.pc + 2) [] ∧ s.Quiet t) ∧
  (∀ (s : State) d a b, s.HasNamed (.jles32 d a b) →
    ∃ t, exec (.jles32 d a b) s = .next t ∧
      s.Becomes t [] s.carry (if s.signed a ≤ s.signed b then BitVec.ofNat 24 (s.reg d).toNat else s.pc + 2) [] ∧ s.Quiet t) ∧
  (∀ (s : State) d a b, s.HasNamed (.jltu32 d a b) →
    ∃ t, exec (.jltu32 d a b) s = .next t ∧
      s.Becomes t [] s.carry (if s.int a < s.int b then BitVec.ofNat 24 (s.reg d).toNat else s.pc + 2) [] ∧ s.Quiet t) ∧
  (∀ (s : State) d a b, s.HasNamed (.jleu32 d a b) →
    ∃ t, exec (.jleu32 d a b) s = .next t ∧
      s.Becomes t [] s.carry (if s.int a ≤ s.int b then BitVec.ofNat 24 (s.reg d).toNat else s.pc + 2) [] ∧ s.Quiet t)

/-- When d is even and both registers of the pair exist, and for JALL the link register exists and is not of the
pair, they complete: the pc becomes R(d+1)[7:0] :: Rd, JALL sets Rb to the low 16 bits of pc + 2, and nothing
else changes (R246, R247, R254). -/
def Obligations.LongJumps : Prop :=
  (∀ (s : State) d, s.HasPair d →
    ∃ t, exec (.jmpl32 d) s = .next t ∧
      s.Becomes t [] s.carry (BitVec.ofNat 24 ((s.reg d).toNat + 65536 * (s.reg (d + 1)).toNat)) [] ∧ s.Quiet t) ∧
  (∀ (s : State) d b, s.HasNamed (.jall32 d b) → s.HasPair d → b ≠ d → b ≠ d + 1 →
    ∃ t, exec (.jall32 d b) s = .next t ∧
      s.Becomes t [(b, BitVec.ofNat 16 (s.pc + 2).toNat)] s.carry (BitVec.ofNat 24 ((s.reg d).toNat + 65536 * (s.reg (d + 1)).toNat)) [] ∧ s.Quiet t)

/-- When the registers and the pair exist, each completes: if its comparison of Ra with Rb holds the pc becomes
R(d+1)[7:0] :: Rd, else it advances by 2; nothing else changes (R248 to R253, R176, R254). -/
def Obligations.ConditionalLongJumps : Prop :=
  (∀ (s : State) d a b, s.HasNamed (.jeql32 d a b) → s.HasPair d →
    ∃ t, exec (.jeql32 d a b) s = .next t ∧
      s.Becomes t [] s.carry (if s.reg a = s.reg b then BitVec.ofNat 24 ((s.reg d).toNat + 65536 * (s.reg (d + 1)).toNat) else s.pc + 2) [] ∧ s.Quiet t) ∧
  (∀ (s : State) d a b, s.HasNamed (.jnel32 d a b) → s.HasPair d →
    ∃ t, exec (.jnel32 d a b) s = .next t ∧
      s.Becomes t [] s.carry (if s.reg a ≠ s.reg b then BitVec.ofNat 24 ((s.reg d).toNat + 65536 * (s.reg (d + 1)).toNat) else s.pc + 2) [] ∧ s.Quiet t) ∧
  (∀ (s : State) d a b, s.HasNamed (.jltsl32 d a b) → s.HasPair d →
    ∃ t, exec (.jltsl32 d a b) s = .next t ∧
      s.Becomes t [] s.carry (if s.signed a < s.signed b then BitVec.ofNat 24 ((s.reg d).toNat + 65536 * (s.reg (d + 1)).toNat) else s.pc + 2) [] ∧ s.Quiet t) ∧
  (∀ (s : State) d a b, s.HasNamed (.jlesl32 d a b) → s.HasPair d →
    ∃ t, exec (.jlesl32 d a b) s = .next t ∧
      s.Becomes t [] s.carry (if s.signed a ≤ s.signed b then BitVec.ofNat 24 ((s.reg d).toNat + 65536 * (s.reg (d + 1)).toNat) else s.pc + 2) [] ∧ s.Quiet t) ∧
  (∀ (s : State) d a b, s.HasNamed (.jltul32 d a b) → s.HasPair d →
    ∃ t, exec (.jltul32 d a b) s = .next t ∧
      s.Becomes t [] s.carry (if s.int a < s.int b then BitVec.ofNat 24 ((s.reg d).toNat + 65536 * (s.reg (d + 1)).toNat) else s.pc + 2) [] ∧ s.Quiet t) ∧
  (∀ (s : State) d a b, s.HasNamed (.jleul32 d a b) → s.HasPair d →
    ∃ t, exec (.jleul32 d a b) s = .next t ∧
      s.Becomes t [] s.carry (if s.int a ≤ s.int b then BitVec.ofNat 24 ((s.reg d).toNat + 65536 * (s.reg (d + 1)).toNat) else s.pc + 2) [] ∧ s.Quiet t)

/-- A word with bit 15 = 0 is in the list of R96, items (a) to (c), exactly when it is the encoding of no
instruction; a pair whose first word has bit 15 = 1 is in it, items (d) to (i), exactly when it is the encoding
of no instruction. In a running machine, a step that fetches a word or pair of the list, and a step that fetches
a long jump whose register pair is odd or absent (item (j)), faults with ReservedInstruction; so does a step
whose words the decoder refuses, for the reason it gives. An encoding that decodes to an instruction other than
a long jump with a bad pair and a refused 32-bit NOP never does (R95, R96, R254, R298, R304; decisions D8 and
D20, log entry 15). -/
def Obligations.ReservedEncodings : Prop :=
  (∀ (w0 : Word), w0.getLsbD 15 = false → (reserved16 w0 = true ↔ ∀ i, encode i ≠ [w0])) ∧
  (∀ (w0 w1 : Word), w0.getLsbD 15 = true → (reserved32 w0 w1 = true ↔ ∀ i, encode i ≠ [w0, w1])) ∧
  (∀ (s : State) (w0 : Word), s.run = .running → s.hasCodeWord s.pc = true → s.codeWord s.pc = some w0 →
      w0.getLsbD 15 = false → reserved16 w0 = true → ∃ r, step s = .fault (.reservedInstruction r)) ∧
  (∀ (s : State) (w0 w1 : Word), s.run = .running → s.hasCodeWord s.pc = true → s.codeWord s.pc = some w0 →
      w0.getLsbD 15 = true → s.hasCodeWord (s.pc + 1) = true → s.codeWord (s.pc + 1) = some w1 →
      reserved32 w0 w1 = true → ∃ r, step s = .fault (.reservedInstruction r)) ∧
  (∀ (s : State) (ws : List Word) (i : Instr) (d : RegNum), s.run = .running → s.fetch = .got ws →
      decode ws = .ok i → i.pair = some d → ¬ s.HasPair d →
      step s = .fault (.reservedInstruction .registerPair)) ∧
  (∀ (s : State) (ws : List Word) (r : Reserved), s.run = .running → s.fetch = .got ws → decode ws = .error r →
      step s = .fault (.reservedInstruction r)) ∧
  (∀ (i : Instr) (s : State) (r : Reserved), (∀ d, i.pair = some d → s.HasPair d) →
      (∀ d imm, i = .nop32 d imm → s.config.nop32 = .refuse → imm.toNat = 1 ∨ 5 ≤ imm.toNat) →
      exec i s ≠ .fault (.reservedInstruction r))

end
end

