-- ==== Sys2Proof/Laws/Decode.lean ====
section
/-!
SUPPORT. A word and its frame determine each other, and the pieces of a field join to the field.
-/

namespace Sys2Proof

theorem fieldsOf_word (f : Fields) : fieldsOf f.word = f := by
  obtain ⟨t, c, o, d, a, b⟩ := f
  simp only [fieldsOf, Fields.word, Fields.mk.injEq]
  refine ⟨?_, ?_, ?_, ?_, ?_, ?_⟩ <;> ext j hj <;>
    simp only [BitVec.getElem_extractLsb', BitVec.getLsbD_append] <;>
    (repeat' split) <;> first | (exfalso; omega) | (rw [← BitVec.getLsbD_eq_getElem]; congr 1; omega)

theorem word_fieldsOf (w : Word) : (fieldsOf w).word = w := by
  simp only [fieldsOf, Fields.word]
  ext j hj
  simp only [BitVec.getElem_append, BitVec.getElem_extractLsb']
  repeat' split
  all_goals (rw [← BitVec.getLsbD_eq_getElem]; congr 1; omega)

theorem Fields.word_top (f : Fields) : f.word.getLsbD 15 = f.top.getLsbD 0 := by
  simp only [Fields.word, BitVec.getLsbD_append, Nat.reduceLT, if_false, Nat.reduceSub]

/-! Joining the pieces of a field. -/

theorem join6 (x : BitVec 6) : piece x 1 ++ piece x 0 = x := by
  simp only [piece]
  ext j hj
  simp only [BitVec.getElem_append, BitVec.getElem_extractLsb']
  repeat' split
  all_goals (rw [← BitVec.getLsbD_eq_getElem]; congr 1; omega)

theorem join9 (x : BitVec 9) : piece x 2 ++ piece x 1 ++ piece x 0 = x := by
  simp only [piece]
  ext j hj
  simp only [BitVec.getElem_append, BitVec.getElem_extractLsb']
  repeat' split
  all_goals (rw [← BitVec.getLsbD_eq_getElem]; congr 1; omega)

theorem join9_high (x : BitVec 9) : x.extractLsb' 6 3 ++ piece x 1 ++ piece x 0 = x := by
  simp only [piece]
  ext j hj
  simp only [BitVec.getElem_append, BitVec.getElem_extractLsb']
  repeat' split
  all_goals (rw [← BitVec.getLsbD_eq_getElem]; congr 1; omega)

theorem join10 (x : BitVec 10) : x.extractLsb' 6 4 ++ piece x 1 ++ piece x 0 = x := by
  simp only [piece]
  ext j hj
  simp only [BitVec.getElem_append, BitVec.getElem_extractLsb']
  repeat' split
  all_goals (rw [← BitVec.getLsbD_eq_getElem]; congr 1; omega)

theorem join12 (x : BitVec 12) : piece x 3 ++ piece x 2 ++ piece x 1 ++ piece x 0 = x := by
  simp only [piece]
  ext j hj
  simp only [BitVec.getElem_append, BitVec.getElem_extractLsb']
  repeat' split
  all_goals (rw [← BitVec.getLsbD_eq_getElem]; congr 1; omega)

theorem join16 (x : BitVec 16) : x.extractLsb' 12 4 ++ piece x 3 ++ piece x 2 ++ piece x 1 ++ piece x 0 = x := by
  simp only [piece]
  ext j hj
  simp only [BitVec.getElem_append, BitVec.getElem_extractLsb']
  repeat' split
  all_goals (rw [← BitVec.getLsbD_eq_getElem]; congr 1; omega)

theorem join22 (x : BitVec 22) : x.extractLsb' 18 4 ++ piece x 5 ++ piece x 4 ++ piece x 3 ++ piece x 2 ++ piece x 1 ++ piece x 0 = x := by
  simp only [piece]
  ext j hj
  simp only [BitVec.getElem_append, BitVec.getElem_extractLsb']
  repeat' split
  all_goals (rw [← BitVec.getLsbD_eq_getElem]; congr 1; omega)

end Sys2Proof
end

