-- ==== Sys2Proof/Laws/State.lean ====
section
/-!
SUPPORT. One lemma per field per update of State, and per reading of a part that an update leaves alone. All are true
by definition.
-/

namespace Sys2Proof.Machine

/-! `setReg`. -/

@[simp] theorem State.setReg_config (s : State) (n : RegNum) (v : Word) : (s.setReg n v).config = s.config := rfl
@[simp] theorem State.setReg_regs (s : State) (n : RegNum) (v : Word) : (s.setReg n v).regs = s.regs.set n.toNat v := rfl
@[simp] theorem State.setReg_pc (s : State) (n : RegNum) (v : Word) : (s.setReg n v).pc = s.pc := rfl
@[simp] theorem State.setReg_carry (s : State) (n : RegNum) (v : Word) : (s.setReg n v).carry = s.carry := rfl
@[simp] theorem State.setReg_statusRest (s : State) (n : RegNum) (v : Word) : (s.setReg n v).statusRest = s.statusRest := rfl
@[simp] theorem State.setReg_imem (s : State) (n : RegNum) (v : Word) : (s.setReg n v).imem = s.imem := rfl
@[simp] theorem State.setReg_dmem (s : State) (n : RegNum) (v : Word) : (s.setReg n v).dmem = s.dmem := rfl
@[simp] theorem State.setReg_run (s : State) (n : RegNum) (v : Word) : (s.setReg n v).run = s.run := rfl
@[simp] theorem State.setReg_stdout (s : State) (n : RegNum) (v : Word) : (s.setReg n v).stdout = s.stdout := rfl
@[simp] theorem State.setReg_stderr (s : State) (n : RegNum) (v : Word) : (s.setReg n v).stderr = s.stderr := rfl
@[simp] theorem State.setReg_busErrors (s : State) (n : RegNum) (v : Word) : (s.setReg n v).busErrors = s.busErrors := rfl
@[simp] theorem State.setReg_hasReg (s : State) (n : RegNum) (v : Word) (k : RegNum) :
    (s.setReg n v).hasReg k = s.hasReg k := rfl
@[simp] theorem State.setReg_dataByte (s : State) (n : RegNum) (v : Word) (k : DataAddr) :
    (s.setReg n v).dataByte k = s.dataByte k := rfl
@[simp] theorem State.setReg_hasDataByte (s : State) (n : RegNum) (v : Word) (k : DataAddr) :
    (s.setReg n v).hasDataByte k = s.hasDataByte k := rfl
@[simp] theorem State.setReg_codeWord (s : State) (n : RegNum) (v : Word) (k : CodeAddr) :
    (s.setReg n v).codeWord k = s.codeWord k := rfl
@[simp] theorem State.setReg_hasCodeWord (s : State) (n : RegNum) (v : Word) (k : CodeAddr) :
    (s.setReg n v).hasCodeWord k = s.hasCodeWord k := rfl
@[simp] theorem State.setReg_nextPc (s : State) (n : RegNum) (v : Word) (k : Nat) :
    (s.setReg n v).nextPc k = s.nextPc k := rfl
@[simp] theorem State.setReg_link (s : State) (n : RegNum) (v : Word) (k : Nat) :
    (s.setReg n v).link k = s.link k := rfl

/-! `setCarry`. -/

@[simp] theorem State.setCarry_config (s : State) (c : Bool) : (s.setCarry c).config = s.config := rfl
@[simp] theorem State.setCarry_regs (s : State) (c : Bool) : (s.setCarry c).regs = s.regs := rfl
@[simp] theorem State.setCarry_pc (s : State) (c : Bool) : (s.setCarry c).pc = s.pc := rfl
@[simp] theorem State.setCarry_carry (s : State) (c : Bool) : (s.setCarry c).carry = c := rfl
@[simp] theorem State.setCarry_statusRest (s : State) (c : Bool) : (s.setCarry c).statusRest = s.statusRest := rfl
@[simp] theorem State.setCarry_imem (s : State) (c : Bool) : (s.setCarry c).imem = s.imem := rfl
@[simp] theorem State.setCarry_dmem (s : State) (c : Bool) : (s.setCarry c).dmem = s.dmem := rfl
@[simp] theorem State.setCarry_run (s : State) (c : Bool) : (s.setCarry c).run = s.run := rfl
@[simp] theorem State.setCarry_stdout (s : State) (c : Bool) : (s.setCarry c).stdout = s.stdout := rfl
@[simp] theorem State.setCarry_stderr (s : State) (c : Bool) : (s.setCarry c).stderr = s.stderr := rfl
@[simp] theorem State.setCarry_busErrors (s : State) (c : Bool) : (s.setCarry c).busErrors = s.busErrors := rfl
@[simp] theorem State.setCarry_reg (s : State) (c : Bool) (k : RegNum) :
    (s.setCarry c).reg k = s.reg k := rfl
@[simp] theorem State.setCarry_hasReg (s : State) (c : Bool) (k : RegNum) :
    (s.setCarry c).hasReg k = s.hasReg k := rfl
@[simp] theorem State.setCarry_int (s : State) (c : Bool) (k : RegNum) :
    (s.setCarry c).int k = s.int k := rfl
@[simp] theorem State.setCarry_signed (s : State) (c : Bool) (k : RegNum) :
    (s.setCarry c).signed k = s.signed k := rfl
@[simp] theorem State.setCarry_dataByte (s : State) (c : Bool) (k : DataAddr) :
    (s.setCarry c).dataByte k = s.dataByte k := rfl
@[simp] theorem State.setCarry_hasDataByte (s : State) (c : Bool) (k : DataAddr) :
    (s.setCarry c).hasDataByte k = s.hasDataByte k := rfl
@[simp] theorem State.setCarry_codeWord (s : State) (c : Bool) (k : CodeAddr) :
    (s.setCarry c).codeWord k = s.codeWord k := rfl
@[simp] theorem State.setCarry_hasCodeWord (s : State) (c : Bool) (k : CodeAddr) :
    (s.setCarry c).hasCodeWord k = s.hasCodeWord k := rfl
@[simp] theorem State.setCarry_nextPc (s : State) (c : Bool) (k : Nat) :
    (s.setCarry c).nextPc k = s.nextPc k := rfl
@[simp] theorem State.setCarry_link (s : State) (c : Bool) (k : Nat) :
    (s.setCarry c).link k = s.link k := rfl
@[simp] theorem State.setCarry_pair (s : State) (c : Bool) (k : RegNum) :
    (s.setCarry c).pair k = s.pair k := rfl

/-! `goto`. -/

@[simp] theorem State.goto_config (s : State) (a : CodeAddr) : (s.goto a).config = s.config := rfl
@[simp] theorem State.goto_regs (s : State) (a : CodeAddr) : (s.goto a).regs = s.regs := rfl
@[simp] theorem State.goto_pc (s : State) (a : CodeAddr) : (s.goto a).pc = a := rfl
@[simp] theorem State.goto_carry (s : State) (a : CodeAddr) : (s.goto a).carry = s.carry := rfl
@[simp] theorem State.goto_statusRest (s : State) (a : CodeAddr) : (s.goto a).statusRest = s.statusRest := rfl
@[simp] theorem State.goto_imem (s : State) (a : CodeAddr) : (s.goto a).imem = s.imem := rfl
@[simp] theorem State.goto_dmem (s : State) (a : CodeAddr) : (s.goto a).dmem = s.dmem := rfl
@[simp] theorem State.goto_run (s : State) (a : CodeAddr) : (s.goto a).run = s.run := rfl
@[simp] theorem State.goto_stdout (s : State) (a : CodeAddr) : (s.goto a).stdout = s.stdout := rfl
@[simp] theorem State.goto_stderr (s : State) (a : CodeAddr) : (s.goto a).stderr = s.stderr := rfl
@[simp] theorem State.goto_busErrors (s : State) (a : CodeAddr) : (s.goto a).busErrors = s.busErrors := rfl
@[simp] theorem State.goto_reg (s : State) (a : CodeAddr) (k : RegNum) :
    (s.goto a).reg k = s.reg k := rfl
@[simp] theorem State.goto_hasReg (s : State) (a : CodeAddr) (k : RegNum) :
    (s.goto a).hasReg k = s.hasReg k := rfl
@[simp] theorem State.goto_int (s : State) (a : CodeAddr) (k : RegNum) :
    (s.goto a).int k = s.int k := rfl
@[simp] theorem State.goto_signed (s : State) (a : CodeAddr) (k : RegNum) :
    (s.goto a).signed k = s.signed k := rfl
@[simp] theorem State.goto_dataByte (s : State) (a : CodeAddr) (k : DataAddr) :
    (s.goto a).dataByte k = s.dataByte k := rfl
@[simp] theorem State.goto_hasDataByte (s : State) (a : CodeAddr) (k : DataAddr) :
    (s.goto a).hasDataByte k = s.hasDataByte k := rfl
@[simp] theorem State.goto_codeWord (s : State) (a : CodeAddr) (k : CodeAddr) :
    (s.goto a).codeWord k = s.codeWord k := rfl
@[simp] theorem State.goto_hasCodeWord (s : State) (a : CodeAddr) (k : CodeAddr) :
    (s.goto a).hasCodeWord k = s.hasCodeWord k := rfl
@[simp] theorem State.goto_pair (s : State) (a : CodeAddr) (k : RegNum) :
    (s.goto a).pair k = s.pair k := rfl

/-! `advance`. -/

@[simp] theorem State.advance_config (s : State) (len : Nat) : (s.advance len).config = s.config := rfl
@[simp] theorem State.advance_regs (s : State) (len : Nat) : (s.advance len).regs = s.regs := rfl
@[simp] theorem State.advance_pc (s : State) (len : Nat) : (s.advance len).pc = s.nextPc len := rfl
@[simp] theorem State.advance_carry (s : State) (len : Nat) : (s.advance len).carry = s.carry := rfl
@[simp] theorem State.advance_statusRest (s : State) (len : Nat) : (s.advance len).statusRest = s.statusRest := rfl
@[simp] theorem State.advance_imem (s : State) (len : Nat) : (s.advance len).imem = s.imem := rfl
@[simp] theorem State.advance_dmem (s : State) (len : Nat) : (s.advance len).dmem = s.dmem := rfl
@[simp] theorem State.advance_run (s : State) (len : Nat) : (s.advance len).run = s.run := rfl
@[simp] theorem State.advance_stdout (s : State) (len : Nat) : (s.advance len).stdout = s.stdout := rfl
@[simp] theorem State.advance_stderr (s : State) (len : Nat) : (s.advance len).stderr = s.stderr := rfl
@[simp] theorem State.advance_busErrors (s : State) (len : Nat) : (s.advance len).busErrors = s.busErrors := rfl
@[simp] theorem State.advance_reg (s : State) (len : Nat) (k : RegNum) :
    (s.advance len).reg k = s.reg k := rfl
@[simp] theorem State.advance_hasReg (s : State) (len : Nat) (k : RegNum) :
    (s.advance len).hasReg k = s.hasReg k := rfl
@[simp] theorem State.advance_int (s : State) (len : Nat) (k : RegNum) :
    (s.advance len).int k = s.int k := rfl
@[simp] theorem State.advance_signed (s : State) (len : Nat) (k : RegNum) :
    (s.advance len).signed k = s.signed k := rfl
@[simp] theorem State.advance_dataByte (s : State) (len : Nat) (k : DataAddr) :
    (s.advance len).dataByte k = s.dataByte k := rfl
@[simp] theorem State.advance_hasDataByte (s : State) (len : Nat) (k : DataAddr) :
    (s.advance len).hasDataByte k = s.hasDataByte k := rfl
@[simp] theorem State.advance_codeWord (s : State) (len : Nat) (k : CodeAddr) :
    (s.advance len).codeWord k = s.codeWord k := rfl
@[simp] theorem State.advance_hasCodeWord (s : State) (len : Nat) (k : CodeAddr) :
    (s.advance len).hasCodeWord k = s.hasCodeWord k := rfl
@[simp] theorem State.advance_pair (s : State) (len : Nat) (k : RegNum) :
    (s.advance len).pair k = s.pair k := rfl

/-! `setRun`. -/

@[simp] theorem State.setRun_config (s : State) (r : RunState) : (s.setRun r).config = s.config := rfl
@[simp] theorem State.setRun_regs (s : State) (r : RunState) : (s.setRun r).regs = s.regs := rfl
@[simp] theorem State.setRun_pc (s : State) (r : RunState) : (s.setRun r).pc = s.pc := rfl
@[simp] theorem State.setRun_carry (s : State) (r : RunState) : (s.setRun r).carry = s.carry := rfl
@[simp] theorem State.setRun_statusRest (s : State) (r : RunState) : (s.setRun r).statusRest = s.statusRest := rfl
@[simp] theorem State.setRun_imem (s : State) (r : RunState) : (s.setRun r).imem = s.imem := rfl
@[simp] theorem State.setRun_dmem (s : State) (r : RunState) : (s.setRun r).dmem = s.dmem := rfl
@[simp] theorem State.setRun_run (s : State) (r : RunState) : (s.setRun r).run = r := rfl
@[simp] theorem State.setRun_stdout (s : State) (r : RunState) : (s.setRun r).stdout = s.stdout := rfl
@[simp] theorem State.setRun_stderr (s : State) (r : RunState) : (s.setRun r).stderr = s.stderr := rfl
@[simp] theorem State.setRun_busErrors (s : State) (r : RunState) : (s.setRun r).busErrors = s.busErrors := rfl
@[simp] theorem State.setRun_reg (s : State) (r : RunState) (k : RegNum) :
    (s.setRun r).reg k = s.reg k := rfl
@[simp] theorem State.setRun_hasReg (s : State) (r : RunState) (k : RegNum) :
    (s.setRun r).hasReg k = s.hasReg k := rfl
@[simp] theorem State.setRun_int (s : State) (r : RunState) (k : RegNum) :
    (s.setRun r).int k = s.int k := rfl
@[simp] theorem State.setRun_signed (s : State) (r : RunState) (k : RegNum) :
    (s.setRun r).signed k = s.signed k := rfl
@[simp] theorem State.setRun_dataByte (s : State) (r : RunState) (k : DataAddr) :
    (s.setRun r).dataByte k = s.dataByte k := rfl
@[simp] theorem State.setRun_hasDataByte (s : State) (r : RunState) (k : DataAddr) :
    (s.setRun r).hasDataByte k = s.hasDataByte k := rfl
@[simp] theorem State.setRun_codeWord (s : State) (r : RunState) (k : CodeAddr) :
    (s.setRun r).codeWord k = s.codeWord k := rfl
@[simp] theorem State.setRun_hasCodeWord (s : State) (r : RunState) (k : CodeAddr) :
    (s.setRun r).hasCodeWord k = s.hasCodeWord k := rfl
@[simp] theorem State.setRun_nextPc (s : State) (r : RunState) (k : Nat) :
    (s.setRun r).nextPc k = s.nextPc k := rfl
@[simp] theorem State.setRun_link (s : State) (r : RunState) (k : Nat) :
    (s.setRun r).link k = s.link k := rfl
@[simp] theorem State.setRun_pair (s : State) (r : RunState) (k : RegNum) :
    (s.setRun r).pair k = s.pair k := rfl

/-! `putStdout`. -/

@[simp] theorem State.putStdout_config (s : State) (b : Byte) : (s.putStdout b).config = s.config := rfl
@[simp] theorem State.putStdout_regs (s : State) (b : Byte) : (s.putStdout b).regs = s.regs := rfl
@[simp] theorem State.putStdout_pc (s : State) (b : Byte) : (s.putStdout b).pc = s.pc := rfl
@[simp] theorem State.putStdout_carry (s : State) (b : Byte) : (s.putStdout b).carry = s.carry := rfl
@[simp] theorem State.putStdout_statusRest (s : State) (b : Byte) : (s.putStdout b).statusRest = s.statusRest := rfl
@[simp] theorem State.putStdout_imem (s : State) (b : Byte) : (s.putStdout b).imem = s.imem := rfl
@[simp] theorem State.putStdout_dmem (s : State) (b : Byte) : (s.putStdout b).dmem = s.dmem := rfl
@[simp] theorem State.putStdout_run (s : State) (b : Byte) : (s.putStdout b).run = s.run := rfl
@[simp] theorem State.putStdout_stdout (s : State) (b : Byte) : (s.putStdout b).stdout = s.stdout ++ [b] := rfl
@[simp] theorem State.putStdout_stderr (s : State) (b : Byte) : (s.putStdout b).stderr = s.stderr := rfl
@[simp] theorem State.putStdout_busErrors (s : State) (b : Byte) : (s.putStdout b).busErrors = s.busErrors := rfl
@[simp] theorem State.putStdout_reg (s : State) (b : Byte) (k : RegNum) :
    (s.putStdout b).reg k = s.reg k := rfl
@[simp] theorem State.putStdout_hasReg (s : State) (b : Byte) (k : RegNum) :
    (s.putStdout b).hasReg k = s.hasReg k := rfl
@[simp] theorem State.putStdout_int (s : State) (b : Byte) (k : RegNum) :
    (s.putStdout b).int k = s.int k := rfl
@[simp] theorem State.putStdout_signed (s : State) (b : Byte) (k : RegNum) :
    (s.putStdout b).signed k = s.signed k := rfl
@[simp] theorem State.putStdout_dataByte (s : State) (b : Byte) (k : DataAddr) :
    (s.putStdout b).dataByte k = s.dataByte k := rfl
@[simp] theorem State.putStdout_hasDataByte (s : State) (b : Byte) (k : DataAddr) :
    (s.putStdout b).hasDataByte k = s.hasDataByte k := rfl
@[simp] theorem State.putStdout_codeWord (s : State) (b : Byte) (k : CodeAddr) :
    (s.putStdout b).codeWord k = s.codeWord k := rfl
@[simp] theorem State.putStdout_hasCodeWord (s : State) (b : Byte) (k : CodeAddr) :
    (s.putStdout b).hasCodeWord k = s.hasCodeWord k := rfl
@[simp] theorem State.putStdout_nextPc (s : State) (b : Byte) (k : Nat) :
    (s.putStdout b).nextPc k = s.nextPc k := rfl
@[simp] theorem State.putStdout_link (s : State) (b : Byte) (k : Nat) :
    (s.putStdout b).link k = s.link k := rfl
@[simp] theorem State.putStdout_pair (s : State) (b : Byte) (k : RegNum) :
    (s.putStdout b).pair k = s.pair k := rfl

/-! `putStderr`. -/

@[simp] theorem State.putStderr_config (s : State) (b : Byte) : (s.putStderr b).config = s.config := rfl
@[simp] theorem State.putStderr_regs (s : State) (b : Byte) : (s.putStderr b).regs = s.regs := rfl
@[simp] theorem State.putStderr_pc (s : State) (b : Byte) : (s.putStderr b).pc = s.pc := rfl
@[simp] theorem State.putStderr_carry (s : State) (b : Byte) : (s.putStderr b).carry = s.carry := rfl
@[simp] theorem State.putStderr_statusRest (s : State) (b : Byte) : (s.putStderr b).statusRest = s.statusRest := rfl
@[simp] theorem State.putStderr_imem (s : State) (b : Byte) : (s.putStderr b).imem = s.imem := rfl
@[simp] theorem State.putStderr_dmem (s : State) (b : Byte) : (s.putStderr b).dmem = s.dmem := rfl
@[simp] theorem State.putStderr_run (s : State) (b : Byte) : (s.putStderr b).run = s.run := rfl
@[simp] theorem State.putStderr_stdout (s : State) (b : Byte) : (s.putStderr b).stdout = s.stdout := rfl
@[simp] theorem State.putStderr_stderr (s : State) (b : Byte) : (s.putStderr b).stderr = s.stderr ++ [b] := rfl
@[simp] theorem State.putStderr_busErrors (s : State) (b : Byte) : (s.putStderr b).busErrors = s.busErrors := rfl
@[simp] theorem State.putStderr_reg (s : State) (b : Byte) (k : RegNum) :
    (s.putStderr b).reg k = s.reg k := rfl
@[simp] theorem State.putStderr_hasReg (s : State) (b : Byte) (k : RegNum) :
    (s.putStderr b).hasReg k = s.hasReg k := rfl
@[simp] theorem State.putStderr_int (s : State) (b : Byte) (k : RegNum) :
    (s.putStderr b).int k = s.int k := rfl
@[simp] theorem State.putStderr_signed (s : State) (b : Byte) (k : RegNum) :
    (s.putStderr b).signed k = s.signed k := rfl
@[simp] theorem State.putStderr_dataByte (s : State) (b : Byte) (k : DataAddr) :
    (s.putStderr b).dataByte k = s.dataByte k := rfl
@[simp] theorem State.putStderr_hasDataByte (s : State) (b : Byte) (k : DataAddr) :
    (s.putStderr b).hasDataByte k = s.hasDataByte k := rfl
@[simp] theorem State.putStderr_codeWord (s : State) (b : Byte) (k : CodeAddr) :
    (s.putStderr b).codeWord k = s.codeWord k := rfl
@[simp] theorem State.putStderr_hasCodeWord (s : State) (b : Byte) (k : CodeAddr) :
    (s.putStderr b).hasCodeWord k = s.hasCodeWord k := rfl
@[simp] theorem State.putStderr_nextPc (s : State) (b : Byte) (k : Nat) :
    (s.putStderr b).nextPc k = s.nextPc k := rfl
@[simp] theorem State.putStderr_link (s : State) (b : Byte) (k : Nat) :
    (s.putStderr b).link k = s.link k := rfl
@[simp] theorem State.putStderr_pair (s : State) (b : Byte) (k : RegNum) :
    (s.putStderr b).pair k = s.pair k := rfl

/-! `takeBusError`. -/

@[simp] theorem State.takeBusError_config (s : State) (e : BusError) : (s.takeBusError e).config = s.config := rfl
@[simp] theorem State.takeBusError_regs (s : State) (e : BusError) : (s.takeBusError e).regs = s.regs := rfl
@[simp] theorem State.takeBusError_pc (s : State) (e : BusError) : (s.takeBusError e).pc = busErrorVector := rfl
@[simp] theorem State.takeBusError_carry (s : State) (e : BusError) : (s.takeBusError e).carry = s.carry := rfl
@[simp] theorem State.takeBusError_statusRest (s : State) (e : BusError) : (s.takeBusError e).statusRest = s.statusRest := rfl
@[simp] theorem State.takeBusError_imem (s : State) (e : BusError) : (s.takeBusError e).imem = s.imem := rfl
@[simp] theorem State.takeBusError_dmem (s : State) (e : BusError) : (s.takeBusError e).dmem = s.dmem := rfl
@[simp] theorem State.takeBusError_run (s : State) (e : BusError) : (s.takeBusError e).run = s.run := rfl
@[simp] theorem State.takeBusError_stdout (s : State) (e : BusError) : (s.takeBusError e).stdout = s.stdout := rfl
@[simp] theorem State.takeBusError_stderr (s : State) (e : BusError) : (s.takeBusError e).stderr = s.stderr := rfl
@[simp] theorem State.takeBusError_busErrors (s : State) (e : BusError) : (s.takeBusError e).busErrors = s.busErrors ++ [e] := rfl
@[simp] theorem State.takeBusError_reg (s : State) (e : BusError) (k : RegNum) :
    (s.takeBusError e).reg k = s.reg k := rfl
@[simp] theorem State.takeBusError_hasReg (s : State) (e : BusError) (k : RegNum) :
    (s.takeBusError e).hasReg k = s.hasReg k := rfl
@[simp] theorem State.takeBusError_int (s : State) (e : BusError) (k : RegNum) :
    (s.takeBusError e).int k = s.int k := rfl
@[simp] theorem State.takeBusError_signed (s : State) (e : BusError) (k : RegNum) :
    (s.takeBusError e).signed k = s.signed k := rfl
@[simp] theorem State.takeBusError_dataByte (s : State) (e : BusError) (k : DataAddr) :
    (s.takeBusError e).dataByte k = s.dataByte k := rfl
@[simp] theorem State.takeBusError_hasDataByte (s : State) (e : BusError) (k : DataAddr) :
    (s.takeBusError e).hasDataByte k = s.hasDataByte k := rfl
@[simp] theorem State.takeBusError_codeWord (s : State) (e : BusError) (k : CodeAddr) :
    (s.takeBusError e).codeWord k = s.codeWord k := rfl
@[simp] theorem State.takeBusError_hasCodeWord (s : State) (e : BusError) (k : CodeAddr) :
    (s.takeBusError e).hasCodeWord k = s.hasCodeWord k := rfl
@[simp] theorem State.takeBusError_pair (s : State) (e : BusError) (k : RegNum) :
    (s.takeBusError e).pair k = s.pair k := rfl

/-! `setDataByte`. -/

@[simp] theorem State.setDataByte_config (s : State) (a : DataAddr) (b : Byte) : (s.setDataByte a b).config = s.config := rfl
@[simp] theorem State.setDataByte_regs (s : State) (a : DataAddr) (b : Byte) : (s.setDataByte a b).regs = s.regs := rfl
@[simp] theorem State.setDataByte_pc (s : State) (a : DataAddr) (b : Byte) : (s.setDataByte a b).pc = s.pc := rfl
@[simp] theorem State.setDataByte_carry (s : State) (a : DataAddr) (b : Byte) : (s.setDataByte a b).carry = s.carry := rfl
@[simp] theorem State.setDataByte_statusRest (s : State) (a : DataAddr) (b : Byte) : (s.setDataByte a b).statusRest = s.statusRest := rfl
@[simp] theorem State.setDataByte_imem (s : State) (a : DataAddr) (b : Byte) : (s.setDataByte a b).imem = s.imem := rfl
@[simp] theorem State.setDataByte_dmem (s : State) (a : DataAddr) (b : Byte) : (s.setDataByte a b).dmem = Memory.write s.dmem a.toNat b := rfl
@[simp] theorem State.setDataByte_run (s : State) (a : DataAddr) (b : Byte) : (s.setDataByte a b).run = s.run := rfl
@[simp] theorem State.setDataByte_stdout (s : State) (a : DataAddr) (b : Byte) : (s.setDataByte a b).stdout = s.stdout := rfl
@[simp] theorem State.setDataByte_stderr (s : State) (a : DataAddr) (b : Byte) : (s.setDataByte a b).stderr = s.stderr := rfl
@[simp] theorem State.setDataByte_busErrors (s : State) (a : DataAddr) (b : Byte) : (s.setDataByte a b).busErrors = s.busErrors := rfl
@[simp] theorem State.setDataByte_reg (s : State) (a : DataAddr) (b : Byte) (k : RegNum) :
    (s.setDataByte a b).reg k = s.reg k := rfl
@[simp] theorem State.setDataByte_hasReg (s : State) (a : DataAddr) (b : Byte) (k : RegNum) :
    (s.setDataByte a b).hasReg k = s.hasReg k := rfl
@[simp] theorem State.setDataByte_int (s : State) (a : DataAddr) (b : Byte) (k : RegNum) :
    (s.setDataByte a b).int k = s.int k := rfl
@[simp] theorem State.setDataByte_signed (s : State) (a : DataAddr) (b : Byte) (k : RegNum) :
    (s.setDataByte a b).signed k = s.signed k := rfl
@[simp] theorem State.setDataByte_hasDataByte (s : State) (a : DataAddr) (b : Byte) (k : DataAddr) :
    (s.setDataByte a b).hasDataByte k = s.hasDataByte k := rfl
@[simp] theorem State.setDataByte_codeWord (s : State) (a : DataAddr) (b : Byte) (k : CodeAddr) :
    (s.setDataByte a b).codeWord k = s.codeWord k := rfl
@[simp] theorem State.setDataByte_hasCodeWord (s : State) (a : DataAddr) (b : Byte) (k : CodeAddr) :
    (s.setDataByte a b).hasCodeWord k = s.hasCodeWord k := rfl
@[simp] theorem State.setDataByte_nextPc (s : State) (a : DataAddr) (b : Byte) (k : Nat) :
    (s.setDataByte a b).nextPc k = s.nextPc k := rfl
@[simp] theorem State.setDataByte_link (s : State) (a : DataAddr) (b : Byte) (k : Nat) :
    (s.setDataByte a b).link k = s.link k := rfl
@[simp] theorem State.setDataByte_pair (s : State) (a : DataAddr) (b : Byte) (k : RegNum) :
    (s.setDataByte a b).pair k = s.pair k := rfl

/-! `loadCodeWord`. -/

@[simp] theorem State.loadCodeWord_config (s : State) (a : CodeAddr) (w : Word) : (s.loadCodeWord a w).config = s.config := rfl
@[simp] theorem State.loadCodeWord_regs (s : State) (a : CodeAddr) (w : Word) : (s.loadCodeWord a w).regs = s.regs := rfl
@[simp] theorem State.loadCodeWord_pc (s : State) (a : CodeAddr) (w : Word) : (s.loadCodeWord a w).pc = s.pc := rfl
@[simp] theorem State.loadCodeWord_carry (s : State) (a : CodeAddr) (w : Word) : (s.loadCodeWord a w).carry = s.carry := rfl
@[simp] theorem State.loadCodeWord_statusRest (s : State) (a : CodeAddr) (w : Word) : (s.loadCodeWord a w).statusRest = s.statusRest := rfl
@[simp] theorem State.loadCodeWord_imem (s : State) (a : CodeAddr) (w : Word) : (s.loadCodeWord a w).imem = Memory.write s.imem a.toNat w := rfl
@[simp] theorem State.loadCodeWord_dmem (s : State) (a : CodeAddr) (w : Word) : (s.loadCodeWord a w).dmem = s.dmem := rfl
@[simp] theorem State.loadCodeWord_run (s : State) (a : CodeAddr) (w : Word) : (s.loadCodeWord a w).run = s.run := rfl
@[simp] theorem State.loadCodeWord_stdout (s : State) (a : CodeAddr) (w : Word) : (s.loadCodeWord a w).stdout = s.stdout := rfl
@[simp] theorem State.loadCodeWord_stderr (s : State) (a : CodeAddr) (w : Word) : (s.loadCodeWord a w).stderr = s.stderr := rfl
@[simp] theorem State.loadCodeWord_busErrors (s : State) (a : CodeAddr) (w : Word) : (s.loadCodeWord a w).busErrors = s.busErrors := rfl
@[simp] theorem State.loadCodeWord_reg (s : State) (a : CodeAddr) (w : Word) (k : RegNum) :
    (s.loadCodeWord a w).reg k = s.reg k := rfl
@[simp] theorem State.loadCodeWord_hasReg (s : State) (a : CodeAddr) (w : Word) (k : RegNum) :
    (s.loadCodeWord a w).hasReg k = s.hasReg k := rfl
@[simp] theorem State.loadCodeWord_int (s : State) (a : CodeAddr) (w : Word) (k : RegNum) :
    (s.loadCodeWord a w).int k = s.int k := rfl
@[simp] theorem State.loadCodeWord_signed (s : State) (a : CodeAddr) (w : Word) (k : RegNum) :
    (s.loadCodeWord a w).signed k = s.signed k := rfl
@[simp] theorem State.loadCodeWord_dataByte (s : State) (a : CodeAddr) (w : Word) (k : DataAddr) :
    (s.loadCodeWord a w).dataByte k = s.dataByte k := rfl
@[simp] theorem State.loadCodeWord_hasDataByte (s : State) (a : CodeAddr) (w : Word) (k : DataAddr) :
    (s.loadCodeWord a w).hasDataByte k = s.hasDataByte k := rfl
@[simp] theorem State.loadCodeWord_hasCodeWord (s : State) (a : CodeAddr) (w : Word) (k : CodeAddr) :
    (s.loadCodeWord a w).hasCodeWord k = s.hasCodeWord k := rfl
@[simp] theorem State.loadCodeWord_nextPc (s : State) (a : CodeAddr) (w : Word) (k : Nat) :
    (s.loadCodeWord a w).nextPc k = s.nextPc k := rfl
@[simp] theorem State.loadCodeWord_link (s : State) (a : CodeAddr) (w : Word) (k : Nat) :
    (s.loadCodeWord a w).link k = s.link k := rfl
@[simp] theorem State.loadCodeWord_pair (s : State) (a : CodeAddr) (w : Word) (k : RegNum) :
    (s.loadCodeWord a w).pair k = s.pair k := rfl

/-! `withCode`. -/

@[simp] theorem State.withCode_config (s : State) (m : Memory Word) : (s.withCode m).config = s.config := rfl
@[simp] theorem State.withCode_regs (s : State) (m : Memory Word) : (s.withCode m).regs = s.regs := rfl
@[simp] theorem State.withCode_pc (s : State) (m : Memory Word) : (s.withCode m).pc = s.pc := rfl
@[simp] theorem State.withCode_carry (s : State) (m : Memory Word) : (s.withCode m).carry = s.carry := rfl
@[simp] theorem State.withCode_statusRest (s : State) (m : Memory Word) : (s.withCode m).statusRest = s.statusRest := rfl
@[simp] theorem State.withCode_imem (s : State) (m : Memory Word) : (s.withCode m).imem = m := rfl
@[simp] theorem State.withCode_dmem (s : State) (m : Memory Word) : (s.withCode m).dmem = s.dmem := rfl
@[simp] theorem State.withCode_run (s : State) (m : Memory Word) : (s.withCode m).run = s.run := rfl
@[simp] theorem State.withCode_stdout (s : State) (m : Memory Word) : (s.withCode m).stdout = s.stdout := rfl
@[simp] theorem State.withCode_stderr (s : State) (m : Memory Word) : (s.withCode m).stderr = s.stderr := rfl
@[simp] theorem State.withCode_busErrors (s : State) (m : Memory Word) : (s.withCode m).busErrors = s.busErrors := rfl
@[simp] theorem State.withCode_reg (s : State) (m : Memory Word) (k : RegNum) :
    (s.withCode m).reg k = s.reg k := rfl
@[simp] theorem State.withCode_hasReg (s : State) (m : Memory Word) (k : RegNum) :
    (s.withCode m).hasReg k = s.hasReg k := rfl
@[simp] theorem State.withCode_int (s : State) (m : Memory Word) (k : RegNum) :
    (s.withCode m).int k = s.int k := rfl
@[simp] theorem State.withCode_signed (s : State) (m : Memory Word) (k : RegNum) :
    (s.withCode m).signed k = s.signed k := rfl
@[simp] theorem State.withCode_dataByte (s : State) (m : Memory Word) (k : DataAddr) :
    (s.withCode m).dataByte k = s.dataByte k := rfl
@[simp] theorem State.withCode_hasDataByte (s : State) (m : Memory Word) (k : DataAddr) :
    (s.withCode m).hasDataByte k = s.hasDataByte k := rfl
@[simp] theorem State.withCode_hasCodeWord (s : State) (m : Memory Word) (k : CodeAddr) :
    (s.withCode m).hasCodeWord k = s.hasCodeWord k := rfl
@[simp] theorem State.withCode_nextPc (s : State) (m : Memory Word) (k : Nat) :
    (s.withCode m).nextPc k = s.nextPc k := rfl
@[simp] theorem State.withCode_link (s : State) (m : Memory Word) (k : Nat) :
    (s.withCode m).link k = s.link k := rfl
@[simp] theorem State.withCode_pair (s : State) (m : Memory Word) (k : RegNum) :
    (s.withCode m).pair k = s.pair k := rfl

/-! `withData`. -/

@[simp] theorem State.withData_config (s : State) (m : Memory Byte) : (s.withData m).config = s.config := rfl
@[simp] theorem State.withData_regs (s : State) (m : Memory Byte) : (s.withData m).regs = s.regs := rfl
@[simp] theorem State.withData_pc (s : State) (m : Memory Byte) : (s.withData m).pc = s.pc := rfl
@[simp] theorem State.withData_carry (s : State) (m : Memory Byte) : (s.withData m).carry = s.carry := rfl
@[simp] theorem State.withData_statusRest (s : State) (m : Memory Byte) : (s.withData m).statusRest = s.statusRest := rfl
@[simp] theorem State.withData_imem (s : State) (m : Memory Byte) : (s.withData m).imem = s.imem := rfl
@[simp] theorem State.withData_dmem (s : State) (m : Memory Byte) : (s.withData m).dmem = m := rfl
@[simp] theorem State.withData_run (s : State) (m : Memory Byte) : (s.withData m).run = s.run := rfl
@[simp] theorem State.withData_stdout (s : State) (m : Memory Byte) : (s.withData m).stdout = s.stdout := rfl
@[simp] theorem State.withData_stderr (s : State) (m : Memory Byte) : (s.withData m).stderr = s.stderr := rfl
@[simp] theorem State.withData_busErrors (s : State) (m : Memory Byte) : (s.withData m).busErrors = s.busErrors := rfl
@[simp] theorem State.withData_reg (s : State) (m : Memory Byte) (k : RegNum) :
    (s.withData m).reg k = s.reg k := rfl
@[simp] theorem State.withData_hasReg (s : State) (m : Memory Byte) (k : RegNum) :
    (s.withData m).hasReg k = s.hasReg k := rfl
@[simp] theorem State.withData_int (s : State) (m : Memory Byte) (k : RegNum) :
    (s.withData m).int k = s.int k := rfl
@[simp] theorem State.withData_signed (s : State) (m : Memory Byte) (k : RegNum) :
    (s.withData m).signed k = s.signed k := rfl
@[simp] theorem State.withData_hasDataByte (s : State) (m : Memory Byte) (k : DataAddr) :
    (s.withData m).hasDataByte k = s.hasDataByte k := rfl
@[simp] theorem State.withData_codeWord (s : State) (m : Memory Byte) (k : CodeAddr) :
    (s.withData m).codeWord k = s.codeWord k := rfl
@[simp] theorem State.withData_hasCodeWord (s : State) (m : Memory Byte) (k : CodeAddr) :
    (s.withData m).hasCodeWord k = s.hasCodeWord k := rfl
@[simp] theorem State.withData_nextPc (s : State) (m : Memory Byte) (k : Nat) :
    (s.withData m).nextPc k = s.nextPc k := rfl
@[simp] theorem State.withData_link (s : State) (m : Memory Byte) (k : Nat) :
    (s.withData m).link k = s.link k := rfl
@[simp] theorem State.withData_pair (s : State) (m : Memory Byte) (k : RegNum) :
    (s.withData m).pair k = s.pair k := rfl

end Sys2Proof.Machine
end

