-- ==== Sys2Proof/Laws/Ops.lean ====
section
/-!
SUPPORT. For each shared operation, what it can do, said once: reading after writing, the canonical form, the checks
before an instruction, data accesses and fetches.
-/

namespace Sys2Proof.Machine

/-! Memories. -/

theorem Memory.read_write {α : Type} (m : Memory α) (a b : Nat) (x : α) :
    Memory.read (Memory.write m a x) b = if b = a then some x else Memory.read m b := by
  induction m with
  | nil => rfl
  | cons c m ih =>
    obtain ⟨k, v⟩ := c
    simp only [Memory.write]
    split
    · rfl
    · split
      · subst_vars; simp only [Memory.read]; split <;> rfl
      · simp only [Memory.read, ih]
        by_cases hb : b = k
        · subst hb; rw [if_pos rfl, if_neg (by omega), if_pos rfl]
        · rw [if_neg hb, if_neg hb]

theorem Memory.mem_write {α : Type} (m : Memory α) (a : Nat) (x : α) (c : Nat × α)
    (h : c ∈ Memory.write m a x) : c = (a, x) ∨ c ∈ m := by
  induction m with
  | nil => simpa [Memory.write] using h
  | cons e m ih =>
    obtain ⟨k, v⟩ := e
    simp only [Memory.write] at h
    split at h
    · simpa using h
    · split at h
      · simp only [List.mem_cons] at h ⊢; tauto
      · simp only [List.mem_cons] at h ⊢
        rcases h with h | h
        · exact .inr (.inl h)
        · rcases ih h with h | h <;> tauto

/-- A write at an existing address keeps the canonical form. -/
theorem Memory.write_wf {α : Type} {size : Nat} {m : Memory α} {a : Nat} (x : α)
    (hm : Memory.wf size m) (ha : a < size) : Memory.wf size (Memory.write m a x) := by
  refine ⟨?_, fun c hc => ?_⟩
  · obtain ⟨hm, -⟩ := hm
    induction m with
    | nil => simp [Memory.write]
    | cons e m ih =>
      obtain ⟨k, v⟩ := e
      rw [List.pairwise_cons] at hm
      simp only [Memory.write]
      split
      · refine List.pairwise_cons.2 ⟨fun c hc => ?_, List.pairwise_cons.2 hm⟩
        rcases List.mem_cons.1 hc with rfl | hc
        · assumption
        · exact Nat.lt_trans ‹_› (hm.1 c hc)
      · split
        · subst_vars; exact List.pairwise_cons.2 hm
        · refine List.pairwise_cons.2 ⟨fun c hc => ?_, ih hm.2⟩
          rcases Memory.mem_write _ _ _ _ hc with rfl | hc
          · change k < a; omega
          · exact hm.1 c hc
  · rcases Memory.mem_write _ _ _ _ hc with rfl | hc
    · exact ha
    · exact hm.2 c hc

theorem Memory.nil_wf {α : Type} (size : Nat) : Memory.wf size ([] : Memory α) := by
  simp [Memory.wf]

/-! Registers and bytes. -/

theorem State.reg_setReg (s : State) (d n : RegNum) (v : Word) :
    (s.setReg d v).reg n = if n = d then v else s.reg n := by
  simp only [State.reg, State.setReg_regs, Vector.getElem_set, BitVec.toNat_inj, eq_comm]

theorem State.setReg_comm (s : State) {d n : RegNum} (v w : Word) (h : d ≠ n) :
    (s.setReg d v).setReg n w = (s.setReg n w).setReg d v := by
  have h' : d.toNat ≠ n.toNat := fun e => h (BitVec.eq_of_toNat_eq e)
  simp only [State.setReg]
  rw [Vector.set_comm _ _ h']

theorem State.dataByte_setDataByte (s : State) (a k : DataAddr) (b : Byte) :
    (s.setDataByte a b).dataByte k = if k = a then some b else s.dataByte k := by
  simp only [State.dataByte, State.setDataByte_dmem, Memory.read_write, BitVec.toNat_inj]

theorem State.codeWord_loadCodeWord (s : State) (a k : CodeAddr) (w : Word) :
    (s.loadCodeWord a w).codeWord k = if k = a then some w else s.codeWord k := by
  simp only [State.codeWord, State.loadCodeWord_imem, Memory.read_write, BitVec.toNat_inj]

/-! Checks before an instruction. -/

theorem checkRegs_present {ns : List RegNum} {s : State} (k : Result) (h : ∀ n ∈ ns, s.hasReg n = true) :
    checkRegs ns s k = k := by
  have : ns.find? (fun n => !s.hasReg n) = none := by
    rw [List.find?_eq_none]; intro n hn; simp [h n hn]
  simp only [checkRegs, this]

theorem checkRegs_missing {ns : List RegNum} {s : State} (k : Result) (h : ¬ ∀ n ∈ ns, s.hasReg n = true) :
    ∃ n ∈ ns, s.hasReg n = false ∧ checkRegs ns s k = .fault (.registerOutOfRange n) := by
  cases hf : ns.find? (fun n => !s.hasReg n) with
  | none =>
    rw [List.find?_eq_none] at hf
    exact absurd (fun n hn => by simpa using hf n hn) h
  | some n =>
    refine ⟨n, List.mem_of_find?_eq_some hf, by simpa using List.find?_some hf, ?_⟩
    simp only [checkRegs, hf]

theorem checkRegs_next {ns : List RegNum} {s t : State} {k : Result} (h : checkRegs ns s k = .next t) :
    (∀ n ∈ ns, s.hasReg n = true) ∧ k = .next t := by
  by_cases hp : ∀ n ∈ ns, s.hasReg n = true
  · exact ⟨hp, by rwa [checkRegs_present k hp] at h⟩
  · obtain ⟨n, -, -, e⟩ := checkRegs_missing k hp
    rw [e] at h; cases h

theorem checkPair_good {d : RegNum} {s : State} (k : Result) (h : s.HasPair d) : checkPair d s k = k := by
  obtain ⟨h1, h2⟩ := h
  rw [checkPair, if_neg (by omega)]

theorem checkPair_bad {d : RegNum} {s : State} (k : Result) (h : ¬ s.HasPair d) :
    checkPair d s k = .fault (.reservedInstruction .registerPair) := by
  rw [checkPair, if_pos]
  by_contra hc
  exact h ⟨by omega, by omega⟩

theorem checkPair_next {d : RegNum} {s t : State} {k : Result} (h : checkPair d s k = .next t) :
    s.HasPair d ∧ k = .next t := by
  by_cases hp : s.HasPair d
  · exact ⟨hp, by rwa [checkPair_good k hp] at h⟩
  · rw [checkPair_bad k hp] at h; cases h

/-! Data accesses. -/

theorem State.firstMissing_none {s : State} {w : Width} {ea : DataAddr} :
    s.firstMissing w ea = none ↔ ∀ a ∈ w.touched ea, s.hasDataByte a = true := by
  simp [State.firstMissing, List.find?_eq_none]

theorem State.firstMissing_some {s : State} {w : Width} {ea a : DataAddr} (h : s.firstMissing w ea = some a) :
    a ∈ w.touched ea ∧ s.hasDataByte a = false :=
  ⟨List.mem_of_find?_eq_some h, by simpa using List.find?_some h⟩

/-- How a read can end: the bus error of a missing byte, a byte without a value, or the value. -/
theorem State.memRead_cases (s : State) (w : Width) (ea : DataAddr) :
    (∃ a, s.firstMissing w ea = some a ∧ s.memRead w ea = .busError a) ∨
    (s.firstMissing w ea = none ∧ ∃ a ∈ w.touched ea, s.dataByte a = none ∧ s.memRead w ea = .unwritten a) ∨
    (s.firstMissing w ea = none ∧ ∃ v, s.memRead w ea = .done v) := by
  unfold State.memRead
  cases s.firstMissing w ea with
  | some a => exact .inl ⟨a, rfl, rfl⟩
  | none =>
    refine .inr ?_
    cases h0 : s.dataByte ea with
    | none => exact .inl ⟨rfl, ea, by cases w <;> simp [Width.touched], h0, rfl⟩
    | some lo =>
      cases w with
      | byte => exact .inr ⟨rfl, _, rfl⟩
      | word =>
        cases h1 : s.dataByte (ea + 1) with
        | none => exact .inl ⟨rfl, ea + 1, by simp [Width.touched], h1, rfl⟩
        | some hi => exact .inr ⟨rfl, _, rfl⟩

/-- How a write can end: the bus error of a missing byte, or the bytes stored. -/
theorem State.memWrite_cases (s : State) (w : Width) (ea : DataAddr) (v : Word) :
    (∃ a, s.firstMissing w ea = some a ∧ s.memWrite w ea v = .busError a) ∨
    (s.firstMissing w ea = none ∧ s.memWrite w ea v = .done (s.storeBytes w ea v)) := by
  unfold State.memWrite
  cases s.firstMissing w ea with
  | some a => exact .inl ⟨a, rfl, rfl⟩
  | none => exact .inr ⟨rfl, rfl⟩

/-! Fetch. -/

theorem isLong_eq (w : Word) : isLong w = w.getLsbD 15 := by
  rw [isLong, Bool.eq_iff_iff, decide_eq_true_iff]
  change w.extractLsb' 15 1 = 1 ↔ _
  constructor
  · intro h
    have := congrArg (fun x : BitVec 1 => x.getLsbD 0) h
    simpa using this
  · intro h
    apply BitVec.eq_of_getLsbD_eq
    intro j hj
    obtain rfl : j = 0 := by omega
    simpa using h

theorem State.ifetch_got {s : State} {a : CodeAddr} {w : Word} (h : s.hasCodeWord a = true)
    (h' : s.codeWord a = some w) : s.ifetch a = .got w := by
  simp only [State.ifetch, h, h', if_true]

theorem State.fetch_short {s : State} {w0 : Word} (h : s.hasCodeWord s.pc = true)
    (h0 : s.codeWord s.pc = some w0) (hb : w0.getLsbD 15 = false) : s.fetch = .got [w0] := by
  simp only [State.fetch, State.ifetch_got h h0, isLong_eq, hb, Bool.false_eq_true, if_false]

theorem State.fetch_long {s : State} {w0 w1 : Word} (h : s.hasCodeWord s.pc = true)
    (h0 : s.codeWord s.pc = some w0) (hb : w0.getLsbD 15 = true) (h' : s.hasCodeWord (s.pc + 1) = true)
    (h1 : s.codeWord (s.pc + 1) = some w1) : s.fetch = .got [w0, w1] := by
  have e : s.nextPc 1 = s.pc + 1 := rfl
  simp only [State.fetch, State.ifetch_got h h0, isLong_eq, hb, if_true, e, State.ifetch_got h' h1]

theorem State.ifetch_busError {s : State} {a b : CodeAddr} (h : s.ifetch a = .busError b) :
    b = a ∧ s.hasCodeWord a = false := by
  unfold State.ifetch at h
  split at h
  · split at h <;> cases h
  · cases h; exact ⟨rfl, by rename_i h; simpa using h⟩

/-- A fetch takes a bus error only at an address whose word does not exist. -/
theorem State.fetch_busError {s : State} {a : CodeAddr} (h : s.fetch = .busError a) : s.hasCodeWord a = false := by
  unfold State.fetch at h
  split at h
  · cases h; obtain ⟨rfl, h⟩ := State.ifetch_busError ‹_›; exact h
  · cases h
  · split at h
    · split at h
      · cases h; obtain ⟨rfl, h⟩ := State.ifetch_busError ‹_›; exact h
      · cases h
      · cases h
    · cases h

/-! One step. -/

theorem step_running {s : State} {ws : List Word} {i : Instr} (hr : s.run = .running) (hf : s.fetch = .got ws)
    (hd : decode ws = .ok i) : step s = exec i s := by
  simp only [step, hr, hf, hd]

/-- What a step that answers a next state did: it took a fetch's bus error, or executed the decoded instruction. -/
theorem step_next {s t : State} (h : step s = .next t) :
    s.run = .running ∧
      ((∃ a, s.fetch = .busError a ∧ t = s.takeBusError (.fetch a)) ∨
        ∃ ws i, s.fetch = .got ws ∧ decode ws = .ok i ∧ exec i s = .next t) := by
  unfold step at h
  split at h
  · cases h
  · cases h
  · refine ⟨‹_›, ?_⟩
    split at h
    · cases h; exact .inl ⟨_, ‹_›, rfl⟩
    · cases h
    · split at h
      · cases h
      · exact .inr ⟨_, _, ‹_›, ‹_›, h⟩

end Sys2Proof.Machine
end

