-- ==== Sys2Proof/Laws/Exec.lean ====
section
/-!
SUPPORT. What an execution that answers a next state can have done, for every instruction at once.
-/

namespace Sys2Proof.Machine

/-- Register writes, in order. -/
def State.putRegs (s : State) (l : List (RegNum × Word)) : State := l.foldl (fun u p => u.setReg p.1 p.2) s

/-- Data byte writes, in order. -/
def State.putBytes (s : State) (l : List (DataAddr × Byte)) : State := l.foldl (fun u p => u.setDataByte p.1 p.2) s

/-- The next states that instruction `i` may give from `s`: the bus error of a byte it touches that does not
exist; the effect of a NOP; or writes to registers it names, to existing bytes if it is a store, to carry if it may, and
a new pc. -/
inductive Effect (i : Instr) (s : State) : State → Prop
  | busError (x : DataAccess) (a : DataAddr) (hx : i.access = some x)
      (ha : a ∈ x.width.touched (s.accessAddress x)) (hm : s.hasDataByte a = false) :
      Effect i s (s.takeBusError (.data a))
  | nop (k : Nat) (d : RegNum) (hn : i.isNop = true) : Effect i s (nopEffect k d (s.advance i.words))
  | writes (regs : List (RegNum × Word)) (bytes : List (DataAddr × Byte)) (c : Bool) (pc : CodeAddr)
      (hi : i.isNop = false) (hr : ∀ p ∈ regs, p.1 ∈ i.named ∧ s.hasReg p.1 = true)
      (hb : ∀ p ∈ bytes, s.hasDataByte p.1 = true)
      (hs : bytes = [] ∨ ∃ x, i.access = some x ∧ x.store = true)
      (hc : c = s.carry ∨ i.writesCarry = true) :
      Effect i s ((((s.putBytes bytes).putRegs regs).setCarry c).goto pc)

theorem Effect.noBytes {i : Instr} {s t : State} (regs : List (RegNum × Word)) (c : Bool) (pc : CodeAddr)
    (hi : i.isNop = false) (hr : ∀ p ∈ regs, p.1 ∈ i.named ∧ s.hasReg p.1 = true)
    (hc : c = s.carry ∨ i.writesCarry = true) (ht : t = ((s.putRegs regs).setCarry c).goto pc) : Effect i s t := by
  subst ht
  exact Effect.writes regs [] c pc hi hr (by simp) (.inl rfl) hc

theorem nopWithEffect_next {i : Instr} {s t : State} {len k : Nat} {d : RegNum} (hi : i.isNop = true)
    (hl : i.words = len) (h : nopWithEffect len d k s = .next t) : Effect i s t := by
  obtain ⟨-, h⟩ := checkRegs_next h
  cases h; subst hl; exact Effect.nop k d hi

theorem nopPlain_next {i : Instr} {s t : State} {len : Nat} {d : RegNum} (hi : i.isNop = true)
    (hl : i.words = len) (h : nopPlain len d s = .next t) : Effect i s t := by
  obtain ⟨-, h⟩ := checkRegs_next h
  cases h; subst hl; exact Effect.nop 1 d hi

theorem execNop32_next {s t : State} {d : RegNum} {imm : BitVec 12} (h : execNop32 d imm s = .next t) :
    Effect (.nop32 d imm) s t := by
  unfold execNop32 at h
  split at h
  · exact nopPlain_next rfl rfl h
  · split at h
    · cases h
    · exact nopPlain_next rfl rfl h
    · exact nopWithEffect_next rfl rfl h

theorem aluRR_next {i : Instr} {s t : State} {len : Nat} {f : Word → Word → Word} {d a b : RegNum}
    (hi : i.isNop = false) (hd : d ∈ i.named) (h : aluRR len f d a b s = .next t) : Effect i s t := by
  obtain ⟨hp, h⟩ := checkRegs_next h
  cases h
  exact Effect.noBytes [(d, _)] s.carry _ hi (by simp [hd, hp d]) (.inl rfl) rfl

theorem aluRRCarry_next {i : Instr} {s t : State} {len : Nat} {f : Word → Word → Bool → Word}
    {g : Word → Word → Bool → Bool} {d a b : RegNum} (hi : i.isNop = false) (hw : i.writesCarry = true)
    (hd : d ∈ i.named) (h : aluRRCarry len f g d a b s = .next t) : Effect i s t := by
  obtain ⟨hp, h⟩ := checkRegs_next h
  cases h
  exact Effect.noBytes [(d, _)] _ _ hi (by simp [hd, hp d]) (.inr hw) rfl

theorem aluR_next {i : Instr} {s t : State} {len : Nat} {f : Word → Word} {d a : RegNum}
    (hi : i.isNop = false) (hd : d ∈ i.named) (h : aluR len f d a s = .next t) : Effect i s t := by
  obtain ⟨hp, h⟩ := checkRegs_next h
  cases h
  exact Effect.noBytes [(d, _)] s.carry _ hi (by simp [hd, hp d]) (.inl rfl) rfl

theorem aluRCarry_next {i : Instr} {s t : State} {len : Nat} {f : Word → Bool → Word} {g : Word → Bool → Bool}
    {d a : RegNum} (hi : i.isNop = false) (hw : i.writesCarry = true) (hd : d ∈ i.named)
    (h : aluRCarry len f g d a s = .next t) : Effect i s t := by
  obtain ⟨hp, h⟩ := checkRegs_next h
  cases h
  exact Effect.noBytes [(d, _)] _ _ hi (by simp [hd, hp d]) (.inr hw) rfl

theorem aluConst_next {i : Instr} {s t : State} {len : Nat} {v : Word} {d : RegNum}
    (hi : i.isNop = false) (hd : d ∈ i.named) (h : aluConst len v d s = .next t) : Effect i s t := by
  obtain ⟨hp, h⟩ := checkRegs_next h
  cases h
  exact Effect.noBytes [(d, _)] s.carry _ hi (by simp [hd, hp d]) (.inl rfl) rfl

theorem load_next {i : Instr} {s t : State} {len : Nat} {w : Width} {m : AddrMode} {d a : RegNum} {off : Word}
    (hi : i.isNop = false) (hx : i.access = some ⟨false, w, m, d, a, off⟩) (hd : d ∈ i.named) (ha : a ∈ i.named)
    (h : load len w m d a off s = .next t) : Effect i s t := by
  obtain ⟨hp, h⟩ := checkRegs_next h
  split at h
  · cases h
  · rcases s.memRead_cases w (m.address (s.reg a) off) with ⟨b, hm, e⟩ | ⟨-, b, -, -, e⟩ | ⟨-, v, e⟩ <;>
      simp only [e, Access.finish] at h
    · cases h
      obtain ⟨h1, h2⟩ := State.firstMissing_some hm
      exact Effect.busError _ b hx h1 h2
    · cases h
    · cases h
      unfold updateBase
      split
      · exact Effect.noBytes [(a, _), (d, _)] s.carry _ hi (by simp [hd, ha, hp a, hp d]) (.inl rfl) rfl
      · exact Effect.noBytes [(d, _)] s.carry _ hi (by simp [hd, hp d]) (.inl rfl) rfl

theorem store_next {i : Instr} {s t : State} {len : Nat} {w : Width} {m : AddrMode} {d a : RegNum} {off : Word}
    (hi : i.isNop = false) (hx : i.access = some ⟨true, w, m, a, d, off⟩) (hd : d ∈ i.named)
    (h : store len w m d off a s = .next t) : Effect i s t := by
  obtain ⟨hp, h⟩ := checkRegs_next h
  split at h
  · cases h
  · have hs : ∃ x, i.access = some x ∧ x.store = true := ⟨_, hx, rfl⟩
    simp only at h
    generalize hea : m.address (s.reg d) off = ea at h
    rcases s.memWrite_cases w ea (s.reg a) with ⟨b, hm, e⟩ | ⟨hm, e⟩ <;> simp only [e, Access.finish] at h
    · cases h
      obtain ⟨h1, h2⟩ := State.firstMissing_some hm
      exact Effect.busError _ b hx (by subst hea; exact h1) h2
    · cases h
      rw [State.firstMissing_none] at hm
      unfold updateBase
      cases w <;> simp only [Width.touched, List.forall_mem_cons] at hm <;> split
      · exact Effect.writes [(d, ea)] [(ea, _)] s.carry _ hi (by simp [hd, hp d]) (by simp [hm]) (.inr hs) (.inl rfl)
      · exact Effect.writes [] [(ea, _)] s.carry _ hi (by simp) (by simp [hm]) (.inr hs) (.inl rfl)
      · exact Effect.writes [(d, ea)] [(ea, _), (ea + 1, _)] s.carry _ hi (by simp [hd, hp d])
          (by simpa using ⟨hm.1, hm.2.1⟩) (.inr hs) (.inl rfl)
      · exact Effect.writes [] [(ea, _), (ea + 1, _)] s.carry _ hi (by simp) (by simpa using ⟨hm.1, hm.2.1⟩) (.inr hs)
          (.inl rfl)

theorem branch_next {i : Instr} {s t : State} {off : CodeAddr} (hi : i.isNop = false)
    (h : branch off s = .next t) : Effect i s t := by
  cases h
  exact Effect.noBytes [] s.carry _ hi (by simp) (.inl rfl) rfl

theorem branchLink_next {i : Instr} {s t : State} {len : Nat} {off : CodeAddr} {b : RegNum} (hi : i.isNop = false)
    (hb : b ∈ i.named) (h : branchLink len off b s = .next t) : Effect i s t := by
  obtain ⟨hp, h⟩ := checkRegs_next h
  cases h
  exact Effect.noBytes [(b, _)] s.carry _ hi (by simp [hb, hp b]) (.inl rfl) rfl

theorem choose_effect {i : Instr} (s : State) (len : Nat) (c : Cond) (a b : RegNum) (pc : CodeAddr)
    (hi : i.isNop = false) : Effect i s (s.choose len c a b pc) := by
  unfold State.choose
  split <;> exact Effect.noBytes [] s.carry _ hi (by simp) (.inl rfl) rfl

theorem branchIf_next {i : Instr} {s t : State} {len : Nat} {c : Cond} {off : CodeAddr} {a b : RegNum}
    (hi : i.isNop = false) (h : branchIf len c off a b s = .next t) : Effect i s t := by
  obtain ⟨-, h⟩ := checkRegs_next h
  cases h
  exact choose_effect s len c a b _ hi

theorem jump_next {i : Instr} {s t : State} {d : RegNum} (hi : i.isNop = false)
    (h : jump d s = .next t) : Effect i s t := by
  obtain ⟨-, h⟩ := checkRegs_next h
  cases h
  exact Effect.noBytes [] s.carry _ hi (by simp) (.inl rfl) rfl

theorem execRte16_next {s t : State} {d : ShortReg} (h : execRte16 d s = .next t) : Effect (.rte16 d) s t := by
  obtain ⟨-, h⟩ := checkRegs_next h
  cases h
  exact Effect.noBytes [] s.carry _ rfl (by simp) (.inl rfl) rfl

theorem jumpLink_next {i : Instr} {s t : State} {len : Nat} {d b : RegNum} (hi : i.isNop = false)
    (hb : b ∈ i.named) (h : jumpLink len d b s = .next t) : Effect i s t := by
  obtain ⟨hp, h⟩ := checkRegs_next h
  split at h <;> cases h
  exact Effect.noBytes [(b, _)] s.carry _ hi (by simp [hb, hp b]) (.inl rfl) rfl

theorem jumpIf_next {i : Instr} {s t : State} {len : Nat} {c : Cond} {d a b : RegNum}
    (hi : i.isNop = false) (h : jumpIf len c d a b s = .next t) : Effect i s t := by
  obtain ⟨-, h⟩ := checkRegs_next h
  cases h
  exact choose_effect s len c a b _ hi

theorem jumpLong_next {i : Instr} {s t : State} {d : RegNum} (hi : i.isNop = false)
    (h : jumpLong d s = .next t) : Effect i s t := by
  obtain ⟨-, h⟩ := checkPair_next h
  cases h
  exact Effect.noBytes [] s.carry _ hi (by simp) (.inl rfl) rfl

theorem jumpLongLink_next {i : Instr} {s t : State} {len : Nat} {d b : RegNum} (hi : i.isNop = false)
    (hb : b ∈ i.named) (h : jumpLongLink len d b s = .next t) : Effect i s t := by
  obtain ⟨-, h⟩ := checkPair_next h
  obtain ⟨hp, h⟩ := checkRegs_next h
  split at h <;> cases h
  exact Effect.noBytes [(b, _)] s.carry _ hi (by simp [hb, hp b]) (.inl rfl) rfl

theorem jumpLongIf_next {i : Instr} {s t : State} {len : Nat} {c : Cond} {d a b : RegNum}
    (hi : i.isNop = false) (h : jumpLongIf len c d a b s = .next t) : Effect i s t := by
  obtain ⟨-, h⟩ := checkPair_next h
  obtain ⟨-, h⟩ := checkRegs_next h
  cases h
  exact choose_effect s len c a b _ hi

/-- Whatever an instruction does when it answers a next state is one of the effects. -/
theorem exec_next {i : Instr} {s t : State} (h : exec i s = .next t) : Effect i s t := by
  cases i with
  | nop16 d imm => exact nopWithEffect_next rfl rfl h
  | add16 d a b =>
    unfold exec execAdd16 at h
    exact aluRRCarry_next rfl rfl (by simp [Instr.named, regOf]) h
  | sub16 d a b =>
    unfold exec execSub16 at h
    exact aluRRCarry_next rfl rfl (by simp [Instr.named, regOf]) h
  | and16 d a b =>
    unfold exec execAnd16 at h
    exact aluRR_next rfl (by simp [Instr.named, regOf]) h
  | or16 d a b =>
    unfold exec execOr16 at h
    exact aluRR_next rfl (by simp [Instr.named, regOf]) h
  | xor16 d a b =>
    unfold exec execXor16 at h
    exact aluRR_next rfl (by simp [Instr.named, regOf]) h
  | asr16 d a b =>
    unfold exec execAsr16 at h
    exact aluRRCarry_next rfl rfl (by simp [Instr.named, regOf]) h
  | lsl16 d a b =>
    unfold exec execLsl16 at h
    exact aluRR_next rfl (by simp [Instr.named, regOf]) h
  | lsr16 d a b =>
    unfold exec execLsr16 at h
    exact aluRR_next rfl (by simp [Instr.named, regOf]) h
  | mov16 d a =>
    unfold exec execMov16 at h
    exact aluR_next rfl (by simp [Instr.named, regOf]) h
  | addi16 d a imm =>
    unfold exec execAddi16 at h
    exact aluRCarry_next rfl rfl (by simp [Instr.named, regOf]) h
  | subi16 d a imm =>
    unfold exec execSubi16 at h
    exact aluRCarry_next rfl rfl (by simp [Instr.named, regOf]) h
  | asri16 d a imm =>
    unfold exec execAsri16 at h
    exact aluRCarry_next rfl rfl (by simp [Instr.named, regOf]) h
  | lsli16 d a imm =>
    unfold exec execLsli16 at h
    exact aluR_next rfl (by simp [Instr.named, regOf]) h
  | lsri16 d a imm =>
    unfold exec execLsri16 at h
    exact aluR_next rfl (by simp [Instr.named, regOf]) h
  | movi16 d imm =>
    unfold exec execMovi16 at h
    exact aluConst_next rfl (by simp [Instr.named, regOf]) h
  | ldb16 d a off => exact load_next rfl rfl (by simp [Instr.named, regOf]) (by simp [Instr.named, regOf]) h
  | ldw16 d a off => exact load_next rfl rfl (by simp [Instr.named, regOf]) (by simp [Instr.named, regOf]) h
  | ldbPost16 d a off => exact load_next rfl rfl (by simp [Instr.named, regOf]) (by simp [Instr.named, regOf]) h
  | ldwPost16 d a off => exact load_next rfl rfl (by simp [Instr.named, regOf]) (by simp [Instr.named, regOf]) h
  | ldbPre16 d a off => exact load_next rfl rfl (by simp [Instr.named, regOf]) (by simp [Instr.named, regOf]) h
  | ldwPre16 d a off => exact load_next rfl rfl (by simp [Instr.named, regOf]) (by simp [Instr.named, regOf]) h
  | stb16 d off a => exact store_next rfl rfl (by simp [Instr.named, regOf]) h
  | stw16 d off a => exact store_next rfl rfl (by simp [Instr.named, regOf]) h
  | stbPost16 d off a => exact store_next rfl rfl (by simp [Instr.named, regOf]) h
  | stwPost16 d off a => exact store_next rfl rfl (by simp [Instr.named, regOf]) h
  | stbPre16 d off a => exact store_next rfl rfl (by simp [Instr.named, regOf]) h
  | stwPre16 d off a => exact store_next rfl rfl (by simp [Instr.named, regOf]) h
  | bra16 off => exact branch_next rfl h
  | bal16 off b => exact branchLink_next rfl (by simp [Instr.named, regOf]) h
  | beq16 off a b => exact branchIf_next rfl h
  | bne16 off a b => exact branchIf_next rfl h
  | blts16 off a b => exact branchIf_next rfl h
  | bles16 off a b => exact branchIf_next rfl h
  | bltu16 off a b => exact branchIf_next rfl h
  | bleu16 off a b => exact branchIf_next rfl h
  | jmp16 d => exact jump_next rfl h
  | jal16 d b => exact jumpLink_next rfl (by simp [Instr.named, regOf]) h
  | jeq16 d a b => exact jumpIf_next rfl h
  | jne16 d a b => exact jumpIf_next rfl h
  | jlts16 d a b => exact jumpIf_next rfl h
  | jles16 d a b => exact jumpIf_next rfl h
  | jltu16 d a b => exact jumpIf_next rfl h
  | jleu16 d a b => exact jumpIf_next rfl h
  | rte16 d => exact execRte16_next h
  | nop32 d imm => exact execNop32_next h
  | add32 d a b =>
    unfold exec execAdd32 at h
    exact aluRRCarry_next rfl rfl (by simp [Instr.named]) h
  | sub32 d a b =>
    unfold exec execSub32 at h
    exact aluRRCarry_next rfl rfl (by simp [Instr.named]) h
  | and32 d a b =>
    unfold exec execAnd32 at h
    exact aluRR_next rfl (by simp [Instr.named]) h
  | or32 d a b =>
    unfold exec execOr32 at h
    exact aluRR_next rfl (by simp [Instr.named]) h
  | xor32 d a b =>
    unfold exec execXor32 at h
    exact aluRR_next rfl (by simp [Instr.named]) h
  | asr32 d a b =>
    unfold exec execAsr32 at h
    exact aluRRCarry_next rfl rfl (by simp [Instr.named]) h
  | lsl32 d a b =>
    unfold exec execLsl32 at h
    exact aluRR_next rfl (by simp [Instr.named]) h
  | lsr32 d a b =>
    unfold exec execLsr32 at h
    exact aluRR_next rfl (by simp [Instr.named]) h
  | mov32 d a =>
    unfold exec execMov32 at h
    exact aluR_next rfl (by simp [Instr.named]) h
  | addi32 d a imm =>
    unfold exec execAddi32 at h
    exact aluRCarry_next rfl rfl (by simp [Instr.named]) h
  | subi32 d a imm =>
    unfold exec execSubi32 at h
    exact aluRCarry_next rfl rfl (by simp [Instr.named]) h
  | asri32 d a imm =>
    unfold exec execAsri32 at h
    exact aluRCarry_next rfl rfl (by simp [Instr.named]) h
  | lsli32 d a imm =>
    unfold exec execLsli32 at h
    exact aluR_next rfl (by simp [Instr.named]) h
  | lsri32 d a imm =>
    unfold exec execLsri32 at h
    exact aluR_next rfl (by simp [Instr.named]) h
  | movi32 d imm =>
    unfold exec execMovi32 at h
    exact aluConst_next rfl (by simp [Instr.named]) h
  | addc32 d a b =>
    unfold exec execAddc32 at h
    exact aluRRCarry_next rfl rfl (by simp [Instr.named]) h
  | subc32 d a b =>
    unfold exec execSubc32 at h
    exact aluRRCarry_next rfl rfl (by simp [Instr.named]) h
  | andi32 d a imm =>
    unfold exec execAndi32 at h
    exact aluR_next rfl (by simp [Instr.named]) h
  | ori32 d a imm =>
    unfold exec execOri32 at h
    exact aluR_next rfl (by simp [Instr.named]) h
  | xori32 d a imm =>
    unfold exec execXori32 at h
    exact aluR_next rfl (by simp [Instr.named]) h
  | ldb32 d a off => exact load_next rfl rfl (by simp [Instr.named]) (by simp [Instr.named]) h
  | ldw32 d a off => exact load_next rfl rfl (by simp [Instr.named]) (by simp [Instr.named]) h
  | ldbPost32 d a off => exact load_next rfl rfl (by simp [Instr.named]) (by simp [Instr.named]) h
  | ldwPost32 d a off => exact load_next rfl rfl (by simp [Instr.named]) (by simp [Instr.named]) h
  | ldbPre32 d a off => exact load_next rfl rfl (by simp [Instr.named]) (by simp [Instr.named]) h
  | ldwPre32 d a off => exact load_next rfl rfl (by simp [Instr.named]) (by simp [Instr.named]) h
  | stb32 d off a => exact store_next rfl rfl (by simp [Instr.named]) h
  | stw32 d off a => exact store_next rfl rfl (by simp [Instr.named]) h
  | stbPost32 d off a => exact store_next rfl rfl (by simp [Instr.named]) h
  | stwPost32 d off a => exact store_next rfl rfl (by simp [Instr.named]) h
  | stbPre32 d off a => exact store_next rfl rfl (by simp [Instr.named]) h
  | stwPre32 d off a => exact store_next rfl rfl (by simp [Instr.named]) h
  | bra32 off => exact branch_next rfl h
  | bal32 off b => exact branchLink_next rfl (by simp [Instr.named]) h
  | beq32 off a b => exact branchIf_next rfl h
  | bne32 off a b => exact branchIf_next rfl h
  | blts32 off a b => exact branchIf_next rfl h
  | bles32 off a b => exact branchIf_next rfl h
  | bltu32 off a b => exact branchIf_next rfl h
  | bleu32 off a b => exact branchIf_next rfl h
  | jmp32 d => exact jump_next rfl h
  | jal32 d b => exact jumpLink_next rfl (by simp [Instr.named]) h
  | jeq32 d a b => exact jumpIf_next rfl h
  | jne32 d a b => exact jumpIf_next rfl h
  | jlts32 d a b => exact jumpIf_next rfl h
  | jles32 d a b => exact jumpIf_next rfl h
  | jltu32 d a b => exact jumpIf_next rfl h
  | jleu32 d a b => exact jumpIf_next rfl h
  | jmpl32 d => exact jumpLong_next rfl h
  | jall32 d b => exact jumpLongLink_next rfl (by simp [Instr.named]) h
  | jeql32 d a b => exact jumpLongIf_next rfl h
  | jnel32 d a b => exact jumpLongIf_next rfl h
  | jltsl32 d a b => exact jumpLongIf_next rfl h
  | jlesl32 d a b => exact jumpLongIf_next rfl h
  | jltul32 d a b => exact jumpLongIf_next rfl h
  | jleul32 d a b => exact jumpLongIf_next rfl h

end Sys2Proof.Machine
end

