-- ==== Sys2Proof/Laws/PerInstr.lean ====
section
/-!
SUPPORT. What is shown instruction by instruction: the encoding has the instruction's length, and bit 15 of its first
word says which length (R80).
-/

namespace Sys2Proof.Laws.EncodedLength

/-- An encoding has as many words as the instruction, and its first word's top bit is 1 exactly for two words. -/
def Statement (i : Instr) : Prop :=
  (encode i).length = i.words ∧ (encode i).head?.map (fun w => w.getLsbD 15) = some (decide (i.words = 2))

theorem short_statement {i : Instr} (hw : i.words = 1) {cls : BitVec 2} {op : BitVec 4} {d a b : BitVec 3}
    (h : encode i = short cls op d a b) : Statement i := by
  refine ⟨by rw [h, hw]; rfl, ?_⟩
  rw [h, hw]
  simp only [short, List.head?_cons, Option.map_some, Fields.word_top]
  rfl

theorem long_statement {i : Instr} (hw : i.words = 2) {cls : BitVec 2} {op grp : BitVec 4}
    {d a b d' a' b' : BitVec 3} (h : encode i = long cls op grp d a b d' a' b') : Statement i := by
  refine ⟨by rw [h, hw]; rfl, ?_⟩
  rw [h, hw]
  simp only [long, List.head?_cons, Option.map_some, Fields.word_top]
  rfl

theorem nop16 (d : ShortReg) (imm : BitVec 6) : Statement (.nop16 d imm) := short_statement rfl rfl
theorem add16 (d : ShortReg) (a : ShortReg) (b : ShortReg) : Statement (.add16 d a b) := short_statement rfl rfl
theorem sub16 (d : ShortReg) (a : ShortReg) (b : ShortReg) : Statement (.sub16 d a b) := short_statement rfl rfl
theorem and16 (d : ShortReg) (a : ShortReg) (b : ShortReg) : Statement (.and16 d a b) := short_statement rfl rfl
theorem or16 (d : ShortReg) (a : ShortReg) (b : ShortReg) : Statement (.or16 d a b) := short_statement rfl rfl
theorem xor16 (d : ShortReg) (a : ShortReg) (b : ShortReg) : Statement (.xor16 d a b) := short_statement rfl rfl
theorem asr16 (d : ShortReg) (a : ShortReg) (b : ShortReg) : Statement (.asr16 d a b) := short_statement rfl rfl
theorem lsl16 (d : ShortReg) (a : ShortReg) (b : ShortReg) : Statement (.lsl16 d a b) := short_statement rfl rfl
theorem lsr16 (d : ShortReg) (a : ShortReg) (b : ShortReg) : Statement (.lsr16 d a b) := short_statement rfl rfl
theorem mov16 (d : ShortReg) (a : ShortReg) : Statement (.mov16 d a) := short_statement rfl rfl
theorem addi16 (d : ShortReg) (a : ShortReg) (imm : BitVec 3) : Statement (.addi16 d a imm) := short_statement rfl rfl
theorem subi16 (d : ShortReg) (a : ShortReg) (imm : BitVec 3) : Statement (.subi16 d a imm) := short_statement rfl rfl
theorem asri16 (d : ShortReg) (a : ShortReg) (imm : BitVec 3) : Statement (.asri16 d a imm) := short_statement rfl rfl
theorem lsli16 (d : ShortReg) (a : ShortReg) (imm : BitVec 3) : Statement (.lsli16 d a imm) := short_statement rfl rfl
theorem lsri16 (d : ShortReg) (a : ShortReg) (imm : BitVec 3) : Statement (.lsri16 d a imm) := short_statement rfl rfl
theorem movi16 (d : ShortReg) (imm : BitVec 6) : Statement (.movi16 d imm) := short_statement rfl rfl
theorem ldb16 (d : ShortReg) (a : ShortReg) (off : BitVec 3) : Statement (.ldb16 d a off) := short_statement rfl rfl
theorem ldw16 (d : ShortReg) (a : ShortReg) (off : BitVec 3) : Statement (.ldw16 d a off) := short_statement rfl rfl
theorem ldbPost16 (d : ShortReg) (a : ShortReg) (off : BitVec 3) : Statement (.ldbPost16 d a off) := short_statement rfl rfl
theorem ldwPost16 (d : ShortReg) (a : ShortReg) (off : BitVec 3) : Statement (.ldwPost16 d a off) := short_statement rfl rfl
theorem ldbPre16 (d : ShortReg) (a : ShortReg) (off : BitVec 3) : Statement (.ldbPre16 d a off) := short_statement rfl rfl
theorem ldwPre16 (d : ShortReg) (a : ShortReg) (off : BitVec 3) : Statement (.ldwPre16 d a off) := short_statement rfl rfl
theorem stb16 (d : ShortReg) (off : BitVec 3) (a : ShortReg) : Statement (.stb16 d off a) := short_statement rfl rfl
theorem stw16 (d : ShortReg) (off : BitVec 3) (a : ShortReg) : Statement (.stw16 d off a) := short_statement rfl rfl
theorem stbPost16 (d : ShortReg) (off : BitVec 3) (a : ShortReg) : Statement (.stbPost16 d off a) := short_statement rfl rfl
theorem stwPost16 (d : ShortReg) (off : BitVec 3) (a : ShortReg) : Statement (.stwPost16 d off a) := short_statement rfl rfl
theorem stbPre16 (d : ShortReg) (off : BitVec 3) (a : ShortReg) : Statement (.stbPre16 d off a) := short_statement rfl rfl
theorem stwPre16 (d : ShortReg) (off : BitVec 3) (a : ShortReg) : Statement (.stwPre16 d off a) := short_statement rfl rfl
theorem bra16 (off : BitVec 9) : Statement (.bra16 off) := short_statement rfl rfl
theorem bal16 (off : BitVec 6) (b : ShortReg) : Statement (.bal16 off b) := short_statement rfl rfl
theorem beq16 (off : BitVec 3) (a : ShortReg) (b : ShortReg) : Statement (.beq16 off a b) := short_statement rfl rfl
theorem bne16 (off : BitVec 3) (a : ShortReg) (b : ShortReg) : Statement (.bne16 off a b) := short_statement rfl rfl
theorem blts16 (off : BitVec 3) (a : ShortReg) (b : ShortReg) : Statement (.blts16 off a b) := short_statement rfl rfl
theorem bles16 (off : BitVec 3) (a : ShortReg) (b : ShortReg) : Statement (.bles16 off a b) := short_statement rfl rfl
theorem bltu16 (off : BitVec 3) (a : ShortReg) (b : ShortReg) : Statement (.bltu16 off a b) := short_statement rfl rfl
theorem bleu16 (off : BitVec 3) (a : ShortReg) (b : ShortReg) : Statement (.bleu16 off a b) := short_statement rfl rfl
theorem jmp16 (d : ShortReg) : Statement (.jmp16 d) := short_statement rfl rfl
theorem jal16 (d : ShortReg) (b : ShortReg) : Statement (.jal16 d b) := short_statement rfl rfl
theorem jeq16 (d : ShortReg) (a : ShortReg) (b : ShortReg) : Statement (.jeq16 d a b) := short_statement rfl rfl
theorem jne16 (d : ShortReg) (a : ShortReg) (b : ShortReg) : Statement (.jne16 d a b) := short_statement rfl rfl
theorem jlts16 (d : ShortReg) (a : ShortReg) (b : ShortReg) : Statement (.jlts16 d a b) := short_statement rfl rfl
theorem jles16 (d : ShortReg) (a : ShortReg) (b : ShortReg) : Statement (.jles16 d a b) := short_statement rfl rfl
theorem jltu16 (d : ShortReg) (a : ShortReg) (b : ShortReg) : Statement (.jltu16 d a b) := short_statement rfl rfl
theorem jleu16 (d : ShortReg) (a : ShortReg) (b : ShortReg) : Statement (.jleu16 d a b) := short_statement rfl rfl
theorem rte16 (d : ShortReg) : Statement (.rte16 d) := short_statement rfl rfl
theorem nop32 (d : RegNum) (imm : BitVec 12) : Statement (.nop32 d imm) := long_statement rfl rfl
theorem add32 (d : RegNum) (a : RegNum) (b : RegNum) : Statement (.add32 d a b) := long_statement rfl rfl
theorem sub32 (d : RegNum) (a : RegNum) (b : RegNum) : Statement (.sub32 d a b) := long_statement rfl rfl
theorem and32 (d : RegNum) (a : RegNum) (b : RegNum) : Statement (.and32 d a b) := long_statement rfl rfl
theorem or32 (d : RegNum) (a : RegNum) (b : RegNum) : Statement (.or32 d a b) := long_statement rfl rfl
theorem xor32 (d : RegNum) (a : RegNum) (b : RegNum) : Statement (.xor32 d a b) := long_statement rfl rfl
theorem asr32 (d : RegNum) (a : RegNum) (b : RegNum) : Statement (.asr32 d a b) := long_statement rfl rfl
theorem lsl32 (d : RegNum) (a : RegNum) (b : RegNum) : Statement (.lsl32 d a b) := long_statement rfl rfl
theorem lsr32 (d : RegNum) (a : RegNum) (b : RegNum) : Statement (.lsr32 d a b) := long_statement rfl rfl
theorem mov32 (d : RegNum) (a : RegNum) : Statement (.mov32 d a) := long_statement rfl rfl
theorem addi32 (d : RegNum) (a : RegNum) (imm : BitVec 10) : Statement (.addi32 d a imm) := long_statement rfl rfl
theorem subi32 (d : RegNum) (a : RegNum) (imm : BitVec 10) : Statement (.subi32 d a imm) := long_statement rfl rfl
theorem asri32 (d : RegNum) (a : RegNum) (imm : BitVec 6) : Statement (.asri32 d a imm) := long_statement rfl rfl
theorem lsli32 (d : RegNum) (a : RegNum) (imm : BitVec 6) : Statement (.lsli32 d a imm) := long_statement rfl rfl
theorem lsri32 (d : RegNum) (a : RegNum) (imm : BitVec 6) : Statement (.lsri32 d a imm) := long_statement rfl rfl
theorem movi32 (d : RegNum) (imm : BitVec 16) : Statement (.movi32 d imm) := long_statement rfl rfl
theorem addc32 (d : RegNum) (a : RegNum) (b : RegNum) : Statement (.addc32 d a b) := long_statement rfl rfl
theorem subc32 (d : RegNum) (a : RegNum) (b : RegNum) : Statement (.subc32 d a b) := long_statement rfl rfl
theorem andi32 (d : RegNum) (a : RegNum) (imm : BitVec 9) : Statement (.andi32 d a imm) := long_statement rfl rfl
theorem ori32 (d : RegNum) (a : RegNum) (imm : BitVec 9) : Statement (.ori32 d a imm) := long_statement rfl rfl
theorem xori32 (d : RegNum) (a : RegNum) (imm : BitVec 9) : Statement (.xori32 d a imm) := long_statement rfl rfl
theorem ldb32 (d : RegNum) (a : RegNum) (off : BitVec 10) : Statement (.ldb32 d a off) := long_statement rfl rfl
theorem ldw32 (d : RegNum) (a : RegNum) (off : BitVec 10) : Statement (.ldw32 d a off) := long_statement rfl rfl
theorem ldbPost32 (d : RegNum) (a : RegNum) (off : BitVec 10) : Statement (.ldbPost32 d a off) := long_statement rfl rfl
theorem ldwPost32 (d : RegNum) (a : RegNum) (off : BitVec 10) : Statement (.ldwPost32 d a off) := long_statement rfl rfl
theorem ldbPre32 (d : RegNum) (a : RegNum) (off : BitVec 10) : Statement (.ldbPre32 d a off) := long_statement rfl rfl
theorem ldwPre32 (d : RegNum) (a : RegNum) (off : BitVec 10) : Statement (.ldwPre32 d a off) := long_statement rfl rfl
theorem stb32 (d : RegNum) (off : BitVec 10) (a : RegNum) : Statement (.stb32 d off a) := long_statement rfl rfl
theorem stw32 (d : RegNum) (off : BitVec 10) (a : RegNum) : Statement (.stw32 d off a) := long_statement rfl rfl
theorem stbPost32 (d : RegNum) (off : BitVec 10) (a : RegNum) : Statement (.stbPost32 d off a) := long_statement rfl rfl
theorem stwPost32 (d : RegNum) (off : BitVec 10) (a : RegNum) : Statement (.stwPost32 d off a) := long_statement rfl rfl
theorem stbPre32 (d : RegNum) (off : BitVec 10) (a : RegNum) : Statement (.stbPre32 d off a) := long_statement rfl rfl
theorem stwPre32 (d : RegNum) (off : BitVec 10) (a : RegNum) : Statement (.stwPre32 d off a) := long_statement rfl rfl
theorem bra32 (off : BitVec 22) : Statement (.bra32 off) := long_statement rfl rfl
theorem bal32 (off : BitVec 16) (b : RegNum) : Statement (.bal32 off b) := long_statement rfl rfl
theorem beq32 (off : BitVec 10) (a : RegNum) (b : RegNum) : Statement (.beq32 off a b) := long_statement rfl rfl
theorem bne32 (off : BitVec 10) (a : RegNum) (b : RegNum) : Statement (.bne32 off a b) := long_statement rfl rfl
theorem blts32 (off : BitVec 10) (a : RegNum) (b : RegNum) : Statement (.blts32 off a b) := long_statement rfl rfl
theorem bles32 (off : BitVec 10) (a : RegNum) (b : RegNum) : Statement (.bles32 off a b) := long_statement rfl rfl
theorem bltu32 (off : BitVec 10) (a : RegNum) (b : RegNum) : Statement (.bltu32 off a b) := long_statement rfl rfl
theorem bleu32 (off : BitVec 10) (a : RegNum) (b : RegNum) : Statement (.bleu32 off a b) := long_statement rfl rfl
theorem jmp32 (d : RegNum) : Statement (.jmp32 d) := long_statement rfl rfl
theorem jal32 (d : RegNum) (b : RegNum) : Statement (.jal32 d b) := long_statement rfl rfl
theorem jeq32 (d : RegNum) (a : RegNum) (b : RegNum) : Statement (.jeq32 d a b) := long_statement rfl rfl
theorem jne32 (d : RegNum) (a : RegNum) (b : RegNum) : Statement (.jne32 d a b) := long_statement rfl rfl
theorem jlts32 (d : RegNum) (a : RegNum) (b : RegNum) : Statement (.jlts32 d a b) := long_statement rfl rfl
theorem jles32 (d : RegNum) (a : RegNum) (b : RegNum) : Statement (.jles32 d a b) := long_statement rfl rfl
theorem jltu32 (d : RegNum) (a : RegNum) (b : RegNum) : Statement (.jltu32 d a b) := long_statement rfl rfl
theorem jleu32 (d : RegNum) (a : RegNum) (b : RegNum) : Statement (.jleu32 d a b) := long_statement rfl rfl
theorem jmpl32 (d : RegNum) : Statement (.jmpl32 d) := long_statement rfl rfl
theorem jall32 (d : RegNum) (b : RegNum) : Statement (.jall32 d b) := long_statement rfl rfl
theorem jeql32 (d : RegNum) (a : RegNum) (b : RegNum) : Statement (.jeql32 d a b) := long_statement rfl rfl
theorem jnel32 (d : RegNum) (a : RegNum) (b : RegNum) : Statement (.jnel32 d a b) := long_statement rfl rfl
theorem jltsl32 (d : RegNum) (a : RegNum) (b : RegNum) : Statement (.jltsl32 d a b) := long_statement rfl rfl
theorem jlesl32 (d : RegNum) (a : RegNum) (b : RegNum) : Statement (.jlesl32 d a b) := long_statement rfl rfl
theorem jltul32 (d : RegNum) (a : RegNum) (b : RegNum) : Statement (.jltul32 d a b) := long_statement rfl rfl
theorem jleul32 (d : RegNum) (a : RegNum) (b : RegNum) : Statement (.jleul32 d a b) := long_statement rfl rfl

end Sys2Proof.Laws.EncodedLength
end

