-- ==== Sys2Proof/Laws/Unseen.lean ====
section
/-!
SUPPORT. What an instruction does not look at: a change of the state that leaves what it reads alone, and that commutes
with what it writes, commutes with its execution.
-/

namespace Sys2Proof.Machine

/-- `f` leaves the configuration, the pc and the registers in `P` alone, and commutes with the updates of
registers in `P`, pc, run state and outputs and with taking a bus error. -/
structure Unseen (P : RegNum → Prop) (f : State → State) : Prop where
  config : ∀ s, (f s).config = s.config
  pc : ∀ s, (f s).pc = s.pc
  reg : ∀ s n, P n → (f s).reg n = s.reg n
  setReg : ∀ s n v, P n → f (s.setReg n v) = (f s).setReg n v
  goto : ∀ s a, f (s.goto a) = (f s).goto a
  setRun : ∀ s r, f (s.setRun r) = (f s).setRun r
  putStdout : ∀ s b, f (s.putStdout b) = (f s).putStdout b
  putStderr : ∀ s b, f (s.putStderr b) = (f s).putStderr b
  takeBusError : ∀ s e, f (s.takeBusError e) = (f s).takeBusError e

/-- `f` leaves carry alone and commutes with its updates. -/
def UnseenCarry (f : State → State) : Prop :=
  (∀ s, (f s).carry = s.carry) ∧ ∀ s c, f (s.setCarry c) = (f s).setCarry c

/-- `f` leaves data memory alone and commutes with its updates. -/
def UnseenData (f : State → State) : Prop :=
  (∀ s, (f s).dmem = s.dmem) ∧ ∀ s a b, f (s.setDataByte a b) = (f s).setDataByte a b

variable {P : RegNum → Prop} {f : State → State} (hf : Unseen P f)
include hf

/-! The shared operations. -/

theorem Unseen.nextPc (s : State) (k : Nat) : (f s).nextPc k = s.nextPc k := by
  simp only [State.nextPc, hf.pc]

theorem Unseen.link (s : State) (k : Nat) : (f s).link k = s.link k := by
  simp only [State.link, hf.nextPc]

theorem Unseen.advance (s : State) (k : Nat) : (f s).advance k = f (s.advance k) := by
  simp only [State.advance, hf.nextPc, hf.goto]

theorem Unseen.pair {s : State} {d : RegNum} (h : P d) (h' : P (d + 1)) : (f s).pair d = s.pair d := by
  simp only [State.pair, hf.reg _ _ h, hf.reg _ _ h']

theorem Unseen.choose {s : State} {len : Nat} {c : Cond} {a b : RegNum} {p : CodeAddr} (ha : P a) (hb : P b) :
    (f s).choose len c a b p = f (s.choose len c a b p) := by
  simp only [State.choose, hf.reg _ _ ha, hf.reg _ _ hb]
  split <;> simp only [hf.goto, hf.advance]

theorem Unseen.nopEffect {k : Nat} {d : RegNum} {s : State} (hd : P d) :
    nopEffect k d (f s) = f (nopEffect k d s) := by
  unfold Machine.nopEffect
  split <;> simp only [hf.reg _ _ hd, hf.setRun, hf.putStdout, hf.putStderr]

theorem Unseen.checkRegs {ns : List RegNum} {s : State} {k k' : Result} (h : k' = mapNext f k) :
    checkRegs ns (f s) k' = mapNext f (checkRegs ns s k) := by
  subst h
  simp only [Machine.checkRegs, State.hasReg, hf.config]
  split <;> rfl

theorem Unseen.checkPair {d : RegNum} {s : State} {k k' : Result} (h : k' = mapNext f k) :
    checkPair d (f s) k' = mapNext f (checkPair d s k) := by
  subst h
  simp only [Machine.checkPair, hf.config]
  split <;> rfl

/-! The shapes. -/

theorem Unseen.aluRR {len : Nat} {g : Word → Word → Word} {d a b : RegNum} {s : State} (h : ∀ n ∈ [d, a, b], P n) :
    aluRR len g d a b (f s) = mapNext f (aluRR len g d a b s) := by
  simp only [List.forall_mem_cons] at h
  refine hf.checkRegs ?_
  simp only [hf.reg _ _ h.2.1, hf.reg _ _ h.2.2.1, ← hf.setReg _ _ _ h.1, hf.advance, mapNext]

theorem Unseen.aluRRCarry {len : Nat} {g : Word → Word → Bool → Word} {g' : Word → Word → Bool → Bool}
    {d a b : RegNum} {s : State} (h : ∀ n ∈ [d, a, b], P n) (hc : UnseenCarry f) :
    aluRRCarry len g g' d a b (f s) = mapNext f (aluRRCarry len g g' d a b s) := by
  simp only [List.forall_mem_cons] at h
  refine hf.checkRegs ?_
  simp only [hc.1, hf.reg _ _ h.2.1, hf.reg _ _ h.2.2.1, ← hf.setReg _ _ _ h.1, ← hc.2, hf.advance, mapNext]

theorem Unseen.aluR {len : Nat} {g : Word → Word} {d a : RegNum} {s : State} (h : ∀ n ∈ [d, a], P n) :
    aluR len g d a (f s) = mapNext f (aluR len g d a s) := by
  simp only [List.forall_mem_cons] at h
  refine hf.checkRegs ?_
  simp only [hf.reg _ _ h.2.1, ← hf.setReg _ _ _ h.1, hf.advance, mapNext]

theorem Unseen.aluRCarry {len : Nat} {g : Word → Bool → Word} {g' : Word → Bool → Bool} {d a : RegNum} {s : State}
    (h : ∀ n ∈ [d, a], P n) (hc : UnseenCarry f) :
    aluRCarry len g g' d a (f s) = mapNext f (aluRCarry len g g' d a s) := by
  simp only [List.forall_mem_cons] at h
  refine hf.checkRegs ?_
  simp only [hc.1, hf.reg _ _ h.2.1, ← hf.setReg _ _ _ h.1, ← hc.2, hf.advance, mapNext]

theorem Unseen.aluConst {len : Nat} {v : Word} {d : RegNum} {s : State} (h : ∀ n ∈ [d], P n) :
    aluConst len v d (f s) = mapNext f (aluConst len v d s) := by
  simp only [List.forall_mem_cons] at h
  refine hf.checkRegs ?_
  simp only [← hf.setReg _ _ _ h.1, hf.advance, mapNext]

theorem Unseen.nopWithEffect {len k : Nat} {d : RegNum} {s : State} (h : ∀ n ∈ [d], P n) :
    nopWithEffect len d k (f s) = mapNext f (nopWithEffect len d k s) := by
  simp only [List.forall_mem_cons] at h
  refine hf.checkRegs ?_
  simp only [hf.advance, hf.nopEffect h.1, mapNext]

theorem Unseen.nopPlain {len : Nat} {d : RegNum} {s : State} :
    nopPlain len d (f s) = mapNext f (nopPlain len d s) := by
  refine hf.checkRegs ?_
  simp only [hf.advance, mapNext]

theorem Unseen.execNop32 {d : RegNum} {imm : BitVec 12} {s : State} (h : ∀ n ∈ [d], P n) :
    execNop32 d imm (f s) = mapNext f (execNop32 d imm s) := by
  simp only [Machine.execNop32, hf.config]
  split
  · exact hf.nopPlain
  · split
    · rfl
    · exact hf.nopPlain
    · exact hf.nopWithEffect h

theorem Unseen.load {len : Nat} {w : Width} {m : AddrMode} {d a : RegNum} {off : Word} {s : State}
    (h : ∀ n ∈ [d, a], P n) (hm : UnseenData f) : load len w m d a off (f s) = mapNext f (load len w m d a off s) := by
  simp only [List.forall_mem_cons] at h
  refine hf.checkRegs ?_
  split
  · rfl
  · have hr : ∀ ea, (f s).memRead w ea = s.memRead w ea := by
      intro ea
      simp only [State.memRead, State.firstMissing, State.hasDataByte, State.dataByte, hf.config, hm.1]
    simp only [hf.reg _ _ h.2.1, hr]
    cases s.memRead w (m.address (s.reg a) off) <;> simp only [Access.finish, mapNext, hf.takeBusError]
    unfold updateBase
    split <;> simp only [← hf.setReg _ _ _ h.1, ← hf.setReg _ _ _ h.2.1, hf.advance]

theorem Unseen.store {len : Nat} {w : Width} {m : AddrMode} {d a : RegNum} {off : Word} {s : State}
    (h : ∀ n ∈ [d, a], P n) (hm : UnseenData f) : store len w m d off a (f s) = mapNext f (store len w m d off a s) := by
  simp only [List.forall_mem_cons] at h
  refine hf.checkRegs ?_
  split
  · rfl
  · have hm' : ∀ ea, (f s).firstMissing w ea = s.firstMissing w ea := by
      intro ea
      simp only [State.firstMissing, State.hasDataByte, hf.config]
    simp only [hf.reg _ _ h.1, hf.reg _ _ h.2.1, State.memWrite, hm']
    cases s.firstMissing w (m.address (s.reg d) off) <;> simp only [Access.finish, mapNext, hf.takeBusError]
    cases w <;> unfold updateBase <;> split <;>
      simp only [State.storeBytes, ← hm.2, ← hf.setReg _ _ _ h.1, hf.advance]

theorem Unseen.branch {off : CodeAddr} {s : State} : branch off (f s) = mapNext f (branch off s) := by
  simp only [Machine.branch, mapNext, hf.goto, hf.pc]

theorem Unseen.branchLink {len : Nat} {off : CodeAddr} {b : RegNum} {s : State} (h : ∀ n ∈ [b], P n) :
    branchLink len off b (f s) = mapNext f (branchLink len off b s) := by
  simp only [List.forall_mem_cons] at h
  refine hf.checkRegs ?_
  simp only [hf.link, ← hf.setReg _ _ _ h.1, ← hf.goto, hf.pc, mapNext]

theorem Unseen.branchIf {len : Nat} {c : Cond} {off : CodeAddr} {a b : RegNum} {s : State} (h : ∀ n ∈ [a, b], P n) :
    branchIf len c off a b (f s) = mapNext f (branchIf len c off a b s) := by
  simp only [List.forall_mem_cons] at h
  refine hf.checkRegs ?_
  simp only [hf.choose h.1 h.2.1, hf.pc, mapNext]

theorem Unseen.jump {d : RegNum} {s : State} (h : ∀ n ∈ [d], P n) : jump d (f s) = mapNext f (jump d s) := by
  simp only [List.forall_mem_cons] at h
  refine hf.checkRegs ?_
  simp only [hf.reg _ _ h.1, ← hf.goto, mapNext]

theorem Unseen.jumpLink {len : Nat} {d b : RegNum} {s : State} (h : ∀ n ∈ [d, b], P n) :
    jumpLink len d b (f s) = mapNext f (jumpLink len d b s) := by
  simp only [List.forall_mem_cons] at h
  refine hf.checkRegs ?_
  split
  · rfl
  · simp only [hf.link, ← hf.setReg _ _ _ h.2.1, hf.reg _ _ h.1, ← hf.goto, mapNext]

theorem Unseen.jumpIf {len : Nat} {c : Cond} {d a b : RegNum} {s : State} (h : ∀ n ∈ [d, a, b], P n) :
    jumpIf len c d a b (f s) = mapNext f (jumpIf len c d a b s) := by
  simp only [List.forall_mem_cons] at h
  refine hf.checkRegs ?_
  simp only [hf.choose h.2.1 h.2.2.1, hf.reg _ _ h.1, mapNext]

theorem Unseen.jumpLong {d : RegNum} {s : State} (h : ∀ n ∈ [d], P n) (h' : P (d + 1)) :
    jumpLong d (f s) = mapNext f (jumpLong d s) := by
  simp only [List.forall_mem_cons] at h
  refine hf.checkPair ?_
  simp only [hf.pair h.1 h', ← hf.goto, mapNext]

theorem Unseen.jumpLongLink {len : Nat} {d b : RegNum} {s : State} (h : ∀ n ∈ [d, b], P n) (h' : P (d + 1)) :
    jumpLongLink len d b (f s) = mapNext f (jumpLongLink len d b s) := by
  simp only [List.forall_mem_cons] at h
  refine hf.checkPair (hf.checkRegs ?_)
  split
  · rfl
  · simp only [hf.link, ← hf.setReg _ _ _ h.2.1, hf.pair h.1 h', ← hf.goto, mapNext]

theorem Unseen.jumpLongIf {len : Nat} {c : Cond} {d a b : RegNum} {s : State} (h : ∀ n ∈ [d, a, b], P n)
    (h' : P (d + 1)) : jumpLongIf len c d a b (f s) = mapNext f (jumpLongIf len c d a b s) := by
  simp only [List.forall_mem_cons] at h
  refine hf.checkPair (hf.checkRegs ?_)
  simp only [hf.choose h.2.1 h.2.2.1, hf.pair h.1 h', mapNext]

theorem Unseen.execRte16 {d : ShortReg} {s : State} (h : ∀ n ∈ [regOf d], P n) :
    execRte16 d (f s) = mapNext f (execRte16 d s) := by
  simp only [List.forall_mem_cons] at h
  refine hf.checkRegs ?_
  simp only [State.returnFromEvent, hf.reg _ _ h.1, ← hf.goto, mapNext]

/-! Every instruction. -/

/-- A change `f` that an instruction does not see, nor its registers, nor the data memory and the carry flag if it
uses them, commutes with its execution. -/
theorem Unseen.exec {i : Instr} {s : State} (h : ∀ n ∈ i.named, P n) (h' : ∀ d, i.pair = some d → P (d + 1))
    (hm : i.access ≠ none → UnseenData f) (hc : i.writesCarry = true → UnseenCarry f) :
    exec i (f s) = mapNext f (exec i s) := by
  cases i with
  | nop16 _ _ => unfold Machine.exec execNop16; exact hf.nopWithEffect h
  | add16 _ _ _ => unfold Machine.exec execAdd16; exact hf.aluRRCarry h (hc rfl)
  | sub16 _ _ _ => unfold Machine.exec execSub16; exact hf.aluRRCarry h (hc rfl)
  | and16 _ _ _ => unfold Machine.exec execAnd16; exact hf.aluRR h
  | or16 _ _ _ => unfold Machine.exec execOr16; exact hf.aluRR h
  | xor16 _ _ _ => unfold Machine.exec execXor16; exact hf.aluRR h
  | asr16 _ _ _ => unfold Machine.exec execAsr16; exact hf.aluRRCarry h (hc rfl)
  | lsl16 _ _ _ => unfold Machine.exec execLsl16; exact hf.aluRR h
  | lsr16 _ _ _ => unfold Machine.exec execLsr16; exact hf.aluRR h
  | mov16 _ _ => unfold Machine.exec execMov16; exact hf.aluR h
  | addi16 _ _ _ => unfold Machine.exec execAddi16; exact hf.aluRCarry h (hc rfl)
  | subi16 _ _ _ => unfold Machine.exec execSubi16; exact hf.aluRCarry h (hc rfl)
  | asri16 _ _ _ => unfold Machine.exec execAsri16; exact hf.aluRCarry h (hc rfl)
  | lsli16 _ _ _ => unfold Machine.exec execLsli16; exact hf.aluR h
  | lsri16 _ _ _ => unfold Machine.exec execLsri16; exact hf.aluR h
  | movi16 _ _ => unfold Machine.exec execMovi16; exact hf.aluConst h
  | ldb16 _ _ _ => unfold Machine.exec execLdb16; exact hf.load h (hm nofun)
  | ldw16 _ _ _ => unfold Machine.exec execLdw16; exact hf.load h (hm nofun)
  | ldbPost16 _ _ _ => unfold Machine.exec execLdbPost16; exact hf.load h (hm nofun)
  | ldwPost16 _ _ _ => unfold Machine.exec execLdwPost16; exact hf.load h (hm nofun)
  | ldbPre16 _ _ _ => unfold Machine.exec execLdbPre16; exact hf.load h (hm nofun)
  | ldwPre16 _ _ _ => unfold Machine.exec execLdwPre16; exact hf.load h (hm nofun)
  | stb16 _ _ _ => unfold Machine.exec execStb16; exact hf.store h (hm nofun)
  | stw16 _ _ _ => unfold Machine.exec execStw16; exact hf.store h (hm nofun)
  | stbPost16 _ _ _ => unfold Machine.exec execStbPost16; exact hf.store h (hm nofun)
  | stwPost16 _ _ _ => unfold Machine.exec execStwPost16; exact hf.store h (hm nofun)
  | stbPre16 _ _ _ => unfold Machine.exec execStbPre16; exact hf.store h (hm nofun)
  | stwPre16 _ _ _ => unfold Machine.exec execStwPre16; exact hf.store h (hm nofun)
  | bra16 _ => unfold Machine.exec execBra16; exact hf.branch
  | bal16 _ _ => unfold Machine.exec execBal16; exact hf.branchLink h
  | beq16 _ _ _ => unfold Machine.exec execBeq16; exact hf.branchIf h
  | bne16 _ _ _ => unfold Machine.exec execBne16; exact hf.branchIf h
  | blts16 _ _ _ => unfold Machine.exec execBlts16; exact hf.branchIf h
  | bles16 _ _ _ => unfold Machine.exec execBles16; exact hf.branchIf h
  | bltu16 _ _ _ => unfold Machine.exec execBltu16; exact hf.branchIf h
  | bleu16 _ _ _ => unfold Machine.exec execBleu16; exact hf.branchIf h
  | jmp16 _ => unfold Machine.exec execJmp16; exact hf.jump h
  | jal16 _ _ => unfold Machine.exec execJal16; exact hf.jumpLink h
  | jeq16 _ _ _ => unfold Machine.exec execJeq16; exact hf.jumpIf h
  | jne16 _ _ _ => unfold Machine.exec execJne16; exact hf.jumpIf h
  | jlts16 _ _ _ => unfold Machine.exec execJlts16; exact hf.jumpIf h
  | jles16 _ _ _ => unfold Machine.exec execJles16; exact hf.jumpIf h
  | jltu16 _ _ _ => unfold Machine.exec execJltu16; exact hf.jumpIf h
  | jleu16 _ _ _ => unfold Machine.exec execJleu16; exact hf.jumpIf h
  | rte16 _ => exact hf.execRte16 h
  | nop32 _ _ => exact hf.execNop32 h
  | add32 _ _ _ => unfold Machine.exec execAdd32; exact hf.aluRRCarry h (hc rfl)
  | sub32 _ _ _ => unfold Machine.exec execSub32; exact hf.aluRRCarry h (hc rfl)
  | and32 _ _ _ => unfold Machine.exec execAnd32; exact hf.aluRR h
  | or32 _ _ _ => unfold Machine.exec execOr32; exact hf.aluRR h
  | xor32 _ _ _ => unfold Machine.exec execXor32; exact hf.aluRR h
  | asr32 _ _ _ => unfold Machine.exec execAsr32; exact hf.aluRRCarry h (hc rfl)
  | lsl32 _ _ _ => unfold Machine.exec execLsl32; exact hf.aluRR h
  | lsr32 _ _ _ => unfold Machine.exec execLsr32; exact hf.aluRR h
  | mov32 _ _ => unfold Machine.exec execMov32; exact hf.aluR h
  | addi32 _ _ _ => unfold Machine.exec execAddi32; exact hf.aluRCarry h (hc rfl)
  | subi32 _ _ _ => unfold Machine.exec execSubi32; exact hf.aluRCarry h (hc rfl)
  | asri32 _ _ _ => unfold Machine.exec execAsri32; exact hf.aluRCarry h (hc rfl)
  | lsli32 _ _ _ => unfold Machine.exec execLsli32; exact hf.aluR h
  | lsri32 _ _ _ => unfold Machine.exec execLsri32; exact hf.aluR h
  | movi32 _ _ => unfold Machine.exec execMovi32; exact hf.aluConst h
  | addc32 _ _ _ => unfold Machine.exec execAddc32; exact hf.aluRRCarry h (hc rfl)
  | subc32 _ _ _ => unfold Machine.exec execSubc32; exact hf.aluRRCarry h (hc rfl)
  | andi32 _ _ _ => unfold Machine.exec execAndi32; exact hf.aluR h
  | ori32 _ _ _ => unfold Machine.exec execOri32; exact hf.aluR h
  | xori32 _ _ _ => unfold Machine.exec execXori32; exact hf.aluR h
  | ldb32 _ _ _ => unfold Machine.exec execLdb32; exact hf.load h (hm nofun)
  | ldw32 _ _ _ => unfold Machine.exec execLdw32; exact hf.load h (hm nofun)
  | ldbPost32 _ _ _ => unfold Machine.exec execLdbPost32; exact hf.load h (hm nofun)
  | ldwPost32 _ _ _ => unfold Machine.exec execLdwPost32; exact hf.load h (hm nofun)
  | ldbPre32 _ _ _ => unfold Machine.exec execLdbPre32; exact hf.load h (hm nofun)
  | ldwPre32 _ _ _ => unfold Machine.exec execLdwPre32; exact hf.load h (hm nofun)
  | stb32 _ _ _ => unfold Machine.exec execStb32; exact hf.store h (hm nofun)
  | stw32 _ _ _ => unfold Machine.exec execStw32; exact hf.store h (hm nofun)
  | stbPost32 _ _ _ => unfold Machine.exec execStbPost32; exact hf.store h (hm nofun)
  | stwPost32 _ _ _ => unfold Machine.exec execStwPost32; exact hf.store h (hm nofun)
  | stbPre32 _ _ _ => unfold Machine.exec execStbPre32; exact hf.store h (hm nofun)
  | stwPre32 _ _ _ => unfold Machine.exec execStwPre32; exact hf.store h (hm nofun)
  | bra32 _ => unfold Machine.exec execBra32; exact hf.branch
  | bal32 _ _ => unfold Machine.exec execBal32; exact hf.branchLink h
  | beq32 _ _ _ => unfold Machine.exec execBeq32; exact hf.branchIf h
  | bne32 _ _ _ => unfold Machine.exec execBne32; exact hf.branchIf h
  | blts32 _ _ _ => unfold Machine.exec execBlts32; exact hf.branchIf h
  | bles32 _ _ _ => unfold Machine.exec execBles32; exact hf.branchIf h
  | bltu32 _ _ _ => unfold Machine.exec execBltu32; exact hf.branchIf h
  | bleu32 _ _ _ => unfold Machine.exec execBleu32; exact hf.branchIf h
  | jmp32 _ => unfold Machine.exec execJmp32; exact hf.jump h
  | jal32 _ _ => unfold Machine.exec execJal32; exact hf.jumpLink h
  | jeq32 _ _ _ => unfold Machine.exec execJeq32; exact hf.jumpIf h
  | jne32 _ _ _ => unfold Machine.exec execJne32; exact hf.jumpIf h
  | jlts32 _ _ _ => unfold Machine.exec execJlts32; exact hf.jumpIf h
  | jles32 _ _ _ => unfold Machine.exec execJles32; exact hf.jumpIf h
  | jltu32 _ _ _ => unfold Machine.exec execJltu32; exact hf.jumpIf h
  | jleu32 _ _ _ => unfold Machine.exec execJleu32; exact hf.jumpIf h
  | jmpl32 _ => unfold Machine.exec execJmpl32; exact hf.jumpLong h (h' _ rfl)
  | jall32 _ _ => unfold Machine.exec execJall32; exact hf.jumpLongLink h (h' _ rfl)
  | jeql32 _ _ _ => unfold Machine.exec execJeql32; exact hf.jumpLongIf h (h' _ rfl)
  | jnel32 _ _ _ => unfold Machine.exec execJnel32; exact hf.jumpLongIf h (h' _ rfl)
  | jltsl32 _ _ _ => unfold Machine.exec execJltsl32; exact hf.jumpLongIf h (h' _ rfl)
  | jlesl32 _ _ _ => unfold Machine.exec execJlesl32; exact hf.jumpLongIf h (h' _ rfl)
  | jltul32 _ _ _ => unfold Machine.exec execJltul32; exact hf.jumpLongIf h (h' _ rfl)
  | jleul32 _ _ _ => unfold Machine.exec execJleul32; exact hf.jumpLongIf h (h' _ rfl)

end Sys2Proof.Machine
end

