-- ==== Sys2Proof/Tests/Slice0.lean ====
section
/-!
SUPPORT. The model's own tests. Every expected value is the spec's: the Example of an instruction's rule, or a vector
of 95_test_vectors.md, whose id the comment gives. Then, for every statement with hypotheses, operands and a
state that meet them.
-/

namespace Sys2Proof.Tests

open Machine

/-! Helpers. -/

/-- A running machine after reset, at `pc`, with the code words `ws` there and the given registers and data bytes. -/
def start (pc : CodeAddr) (carry : Bool) (ws : List Word) (regs : List (RegNum × Word))
    (bytes : List (DataAddr × Byte)) : State :=
  let s : State := { State.reset with pc := pc, carry := carry }
  let s := (ws.zipIdx).foldl (fun s p => s.loadCodeWord (s.nextPc p.2) p.1) s
  let s := regs.foldl (fun s p => s.setReg p.1 p.2) s
  bytes.foldl (fun s p => s.setDataByte p.1 p.2) s

/-- The state with another configuration. -/
def configured (c : Config) (s : State) : State := { s with config := c }

/-- The next state of a result. -/
def nextOf (r : Result) : Option State :=
  match r with
  | .next t => some t
  | .fault _ => none
  | .refused _ => none

/-- The fault of a result. -/
def faultOf (r : Result) : Option Fault :=
  match r with
  | .next _ => none
  | .fault e => some e
  | .refused _ => none

/-- The state after one step. -/
def stepped (s : State) : Option State := nextOf (step s)

/-! Well-formedness: each long jump with an odd register is refused by the check, with an even one accepted. -/

theorem test_wellFormed_smoke :
    (Instr.jmpl32 3).wellFormed = false ∧ (Instr.jall32 63 0).wellFormed = false ∧
    (Instr.jeql32 1 0 0).wellFormed = false ∧ (Instr.jnel32 3 0 0).wellFormed = false ∧
    (Instr.jltsl32 5 0 0).wellFormed = false ∧ (Instr.jlesl32 7 0 0).wellFormed = false ∧
    (Instr.jltul32 61 0 0).wellFormed = false ∧ (Instr.jleul32 63 0 0).wellFormed = false ∧
    (Instr.jmpl32 62).wellFormed = true ∧ (Instr.jleul32 0 63 63).wellFormed = true ∧
    (Instr.jmp32 63).wellFormed = true := by
  decide

/-- A configuration outside the ranges of R5, R6 and R7 is refused by its check, and so is a memory out of order or
with a cell that does not exist. -/
theorem test_config_smoke :
    Config.standard.wf ∧ ¬ Config.wf { Config.standard with nregs := 3 } ∧
    ¬ Config.wf { Config.standard with nregs := 65 } ∧ ¬ Config.wf { Config.standard with imemWords := 0 } ∧
    ¬ Config.wf { Config.standard with dmemBytes := 65537 } ∧
    ¬ Memory.wf 4 [(2, (0 : Byte)), (1, 0)] ∧ ¬ Memory.wf 4 [(1, (0 : Byte)), (1, 1)] ∧
    ¬ Memory.wf 4 [(4, (0 : Byte))] ∧ Memory.wf 4 [(0, (0 : Byte)), (3, 1)] := by
  decide

/-- Reserved encodings, each refused by its own name: a 16-bit class-11 opcode, an unused slot, a load/store opcode, an
instruction longer than 32 bits, class bits 11, the second word's class bits. -/
theorem test_decode_refuses :
    decode [0x6200] = .error .miscOpcode ∧ decode [0x1251] = .error .unusedSlot ∧
    decode [0x2600] = .error .loadStoreOpcode ∧ decode [0x8000, 0x8000] = .error .longerThan32Bits ∧
    decode [0xE000, 0x0000] = .error .misc32 ∧ decode [0x8000, 0x2000] = .error .highClassBits := by
  decide

/-! Decoding and encoding: the words of the rules' Examples. -/

/-- The words of the Examples of R120 to R131. -/
theorem test_decode_alu16_a :
    decode [0x0001] = .ok (.nop16 0 1) ∧
    decode [0x0253] = .ok (.add16 1 2 3) ∧
    decode [0x0453] = .ok (.sub16 1 2 3) ∧
    decode [0x0653] = .ok (.and16 1 2 3) ∧
    decode [0x0853] = .ok (.or16 1 2 3) ∧
    decode [0x0A53] = .ok (.xor16 1 2 3) ∧
    decode [0x0C53] = .ok (.asr16 1 2 3) ∧
    decode [0x0E53] = .ok (.lsl16 1 2 3) ∧
    decode [0x1053] = .ok (.lsr16 1 2 3) ∧
    decode [0x1250] = .ok (.mov16 1 2) ∧
    decode [0x1455] = .ok (.addi16 1 2 5) ∧
    decode [0x1657] = .ok (.subi16 1 2 7) := by
  decide

/-- The same words, encoded. -/
theorem test_encode_alu16_a :
    encode (.nop16 0 1) = [0x0001] ∧
    encode (.add16 1 2 3) = [0x0253] ∧
    encode (.sub16 1 2 3) = [0x0453] ∧
    encode (.and16 1 2 3) = [0x0653] ∧
    encode (.or16 1 2 3) = [0x0853] ∧
    encode (.xor16 1 2 3) = [0x0A53] ∧
    encode (.asr16 1 2 3) = [0x0C53] ∧
    encode (.lsl16 1 2 3) = [0x0E53] ∧
    encode (.lsr16 1 2 3) = [0x1053] ∧
    encode (.mov16 1 2) = [0x1250] ∧
    encode (.addi16 1 2 5) = [0x1455] ∧
    encode (.subi16 1 2 7) = [0x1657] := by
  decide

/-- The words of the Examples of R132 to R135. -/
theorem test_decode_alu16_b :
    decode [0x1850] = .ok (.asri16 1 2 0) ∧
    decode [0x1A57] = .ok (.lsli16 1 2 7) ∧
    decode [0x1C50] = .ok (.lsri16 1 2 0) ∧
    decode [0x1E7F] = .ok (.movi16 1 63) := by
  decide

/-- The same words, encoded. -/
theorem test_encode_alu16_b :
    encode (.asri16 1 2 0) = [0x1850] ∧
    encode (.lsli16 1 2 7) = [0x1A57] ∧
    encode (.lsri16 1 2 0) = [0x1C50] ∧
    encode (.movi16 1 63) = [0x1E7F] := by
  decide

/-- The words of the Examples of R140 to R151. -/
theorem test_decode_loadstore16 :
    decode [0x2053] = .ok (.ldb16 1 2 3) ∧
    decode [0x2853] = .ok (.ldw16 1 2 3) ∧
    decode [0x2252] = .ok (.ldbPost16 1 2 2) ∧
    decode [0x2A52] = .ok (.ldwPost16 1 2 2) ∧
    decode [0x2452] = .ok (.ldbPre16 1 2 2) ∧
    decode [0x2C52] = .ok (.ldwPre16 1 2 2) ∧
    decode [0x3054] = .ok (.stb16 1 4 2) ∧
    decode [0x3854] = .ok (.stw16 1 4 2) ∧
    decode [0x3252] = .ok (.stbPost16 1 2 2) ∧
    decode [0x3A52] = .ok (.stwPost16 1 2 2) ∧
    decode [0x3452] = .ok (.stbPre16 1 2 2) ∧
    decode [0x3C52] = .ok (.stwPre16 1 2 2) := by
  decide

/-- The same words, encoded. -/
theorem test_encode_loadstore16 :
    encode (.ldb16 1 2 3) = [0x2053] ∧
    encode (.ldw16 1 2 3) = [0x2853] ∧
    encode (.ldbPost16 1 2 2) = [0x2252] ∧
    encode (.ldwPost16 1 2 2) = [0x2A52] ∧
    encode (.ldbPre16 1 2 2) = [0x2452] ∧
    encode (.ldwPre16 1 2 2) = [0x2C52] ∧
    encode (.stb16 1 4 2) = [0x3054] ∧
    encode (.stw16 1 4 2) = [0x3854] ∧
    encode (.stbPost16 1 2 2) = [0x3252] ∧
    encode (.stwPost16 1 2 2) = [0x3A52] ∧
    encode (.stbPre16 1 2 2) = [0x3452] ∧
    encode (.stwPre16 1 2 2) = [0x3C52] := by
  decide

/-- The words of the Examples of R160 to R171. -/
theorem test_decode_branch16_a :
    decode [0x41FD] = .ok (.bra16 509) ∧
    decode [0x4228] = .ok (.bal16 5 0) ∧
    decode [0x4513] = .ok (.beq16 4 2 3) ∧
    decode [0x4713] = .ok (.bne16 4 2 3) ∧
    decode [0x4913] = .ok (.blts16 4 2 3) ∧
    decode [0x4B13] = .ok (.bles16 4 2 3) ∧
    decode [0x4D13] = .ok (.bltu16 4 2 3) ∧
    decode [0x4F13] = .ok (.bleu16 4 2 3) ∧
    decode [0x5040] = .ok (.jmp16 1) ∧
    decode [0x5240] = .ok (.jal16 1 0) ∧
    decode [0x5453] = .ok (.jeq16 1 2 3) ∧
    decode [0x5653] = .ok (.jne16 1 2 3) := by
  decide

/-- The same words, encoded. -/
theorem test_encode_branch16_a :
    encode (.bra16 509) = [0x41FD] ∧
    encode (.bal16 5 0) = [0x4228] ∧
    encode (.beq16 4 2 3) = [0x4513] ∧
    encode (.bne16 4 2 3) = [0x4713] ∧
    encode (.blts16 4 2 3) = [0x4913] ∧
    encode (.bles16 4 2 3) = [0x4B13] ∧
    encode (.bltu16 4 2 3) = [0x4D13] ∧
    encode (.bleu16 4 2 3) = [0x4F13] ∧
    encode (.jmp16 1) = [0x5040] ∧
    encode (.jal16 1 0) = [0x5240] ∧
    encode (.jeq16 1 2 3) = [0x5453] ∧
    encode (.jne16 1 2 3) = [0x5653] := by
  decide

/-- The words of the Examples of R172 to R175. -/
theorem test_decode_branch16_b :
    decode [0x5853] = .ok (.jlts16 1 2 3) ∧
    decode [0x5A53] = .ok (.jles16 1 2 3) ∧
    decode [0x5C53] = .ok (.jltu16 1 2 3) ∧
    decode [0x5E53] = .ok (.jleu16 1 2 3) := by
  decide

/-- The same words, encoded. -/
theorem test_encode_branch16_b :
    encode (.jlts16 1 2 3) = [0x5853] ∧
    encode (.jles16 1 2 3) = [0x5A53] ∧
    encode (.jltu16 1 2 3) = [0x5C53] ∧
    encode (.jleu16 1 2 3) = [0x5E53] := by
  decide

/-- The words of the Examples of R180 to R180. -/
theorem test_decode_misc16 :
    decode [0x6040] = .ok (.rte16 1) := by
  decide

/-- The same words, encoded. -/
theorem test_encode_misc16 :
    encode (.rte16 1) = [0x6040] := by
  decide

/-- The words of the Examples of R185 to R196. -/
theorem test_decode_alu32_a :
    decode [0x8001, 0x0000] = .ok (.nop32 0 1) ∧
    decode [0x8254, 0x0054] = .ok (.add32 9 18 36) ∧
    decode [0x8454, 0x0054] = .ok (.sub32 9 18 36) ∧
    decode [0x8654, 0x0054] = .ok (.and32 9 18 36) ∧
    decode [0x8854, 0x0054] = .ok (.or32 9 18 36) ∧
    decode [0x8A54, 0x0054] = .ok (.xor32 9 18 36) ∧
    decode [0x8C54, 0x0054] = .ok (.asr32 9 18 36) ∧
    decode [0x8E54, 0x0054] = .ok (.lsl32 9 18 36) ∧
    decode [0x9054, 0x0054] = .ok (.lsr32 9 18 36) ∧
    decode [0x9250, 0x0050] = .ok (.mov32 9 18) ∧
    decode [0x9450, 0x1E55] = .ok (.addi32 9 18 1000) ∧
    decode [0x9657, 0x1E57] = .ok (.subi32 9 18 1023) := by
  decide

/-- The same words, encoded. -/
theorem test_encode_alu32_a :
    encode (.nop32 0 1) = [0x8001, 0x0000] ∧
    encode (.add32 9 18 36) = [0x8254, 0x0054] ∧
    encode (.sub32 9 18 36) = [0x8454, 0x0054] ∧
    encode (.and32 9 18 36) = [0x8654, 0x0054] ∧
    encode (.or32 9 18 36) = [0x8854, 0x0054] ∧
    encode (.xor32 9 18 36) = [0x8A54, 0x0054] ∧
    encode (.asr32 9 18 36) = [0x8C54, 0x0054] ∧
    encode (.lsl32 9 18 36) = [0x8E54, 0x0054] ∧
    encode (.lsr32 9 18 36) = [0x9054, 0x0054] ∧
    encode (.mov32 9 18) = [0x9250, 0x0050] ∧
    encode (.addi32 9 18 1000) = [0x9450, 0x1E55] ∧
    encode (.subi32 9 18 1023) = [0x9657, 0x1E57] := by
  decide

/-- The words of the Examples of R197 to R205. -/
theorem test_decode_alu32_b :
    decode [0x9857, 0x0051] = .ok (.asri32 9 18 15) ∧
    decode [0x9A53, 0x0051] = .ok (.lsli32 9 18 11) ∧
    decode [0x9C53, 0x0051] = .ok (.lsri32 9 18 11) ∧
    decode [0x9E4D, 0x146F] = .ok (.movi32 9 43981) ∧
    decode [0x8254, 0x0254] = .ok (.addc32 9 18 36) ∧
    decode [0x8454, 0x0254] = .ok (.subc32 9 18 36) ∧
    decode [0x8655, 0x1A54] = .ok (.andi32 9 18 421) ∧
    decode [0x8857, 0x1E57] = .ok (.ori32 9 18 511) ∧
    decode [0x8A55, 0x1652] = .ok (.xori32 9 18 341) := by
  decide

/-- The same words, encoded. -/
theorem test_encode_alu32_b :
    encode (.asri32 9 18 15) = [0x9857, 0x0051] ∧
    encode (.lsli32 9 18 11) = [0x9A53, 0x0051] ∧
    encode (.lsri32 9 18 11) = [0x9C53, 0x0051] ∧
    encode (.movi32 9 43981) = [0x9E4D, 0x146F] ∧
    encode (.addc32 9 18 36) = [0x8254, 0x0254] ∧
    encode (.subc32 9 18 36) = [0x8454, 0x0254] ∧
    encode (.andi32 9 18 421) = [0x8655, 0x1A54] ∧
    encode (.ori32 9 18 511) = [0x8857, 0x1E57] ∧
    encode (.xori32 9 18 341) = [0x8A55, 0x1652] := by
  decide

/-- The words of the Examples of R210 to R221. -/
theorem test_decode_loadstore32 :
    decode [0xA054, 0x1652] = .ok (.ldb32 9 18 724) ∧
    decode [0xA854, 0x1652] = .ok (.ldw32 9 18 724) ∧
    decode [0xA257, 0x0E57] = .ok (.ldbPost32 9 18 511) ∧
    decode [0xAA57, 0x0E57] = .ok (.ldwPost32 9 18 511) ∧
    decode [0xA450, 0x1050] = .ok (.ldbPre32 9 18 512) ∧
    decode [0xAC50, 0x1050] = .ok (.ldwPre32 9 18 512) ∧
    decode [0xB054, 0x0855] = .ok (.stb32 9 300 18) ∧
    decode [0xB854, 0x0855] = .ok (.stw32 9 300 18) ∧
    decode [0xB256, 0x1E57] = .ok (.stbPost32 9 1022 18) ∧
    decode [0xBA56, 0x1E57] = .ok (.stwPost32 9 1022 18) ∧
    decode [0xB452, 0x0050] = .ok (.stbPre32 9 2 18) ∧
    decode [0xBC52, 0x0050] = .ok (.stwPre32 9 2 18) := by
  decide

/-- The same words, encoded. -/
theorem test_encode_loadstore32 :
    encode (.ldb32 9 18 724) = [0xA054, 0x1652] ∧
    encode (.ldw32 9 18 724) = [0xA854, 0x1652] ∧
    encode (.ldbPost32 9 18 511) = [0xA257, 0x0E57] ∧
    encode (.ldwPost32 9 18 511) = [0xAA57, 0x0E57] ∧
    encode (.ldbPre32 9 18 512) = [0xA450, 0x1050] ∧
    encode (.ldwPre32 9 18 512) = [0xAC50, 0x1050] ∧
    encode (.stb32 9 300 18) = [0xB054, 0x0855] ∧
    encode (.stw32 9 300 18) = [0xB854, 0x0855] ∧
    encode (.stbPost32 9 1022 18) = [0xB256, 0x1E57] ∧
    encode (.stwPost32 9 1022 18) = [0xBA56, 0x1E57] ∧
    encode (.stbPre32 9 2 18) = [0xB452, 0x0050] ∧
    encode (.stwPre32 9 2 18) = [0xBC52, 0x0050] := by
  decide

/-- The words of the Examples of R230 to R241. -/
theorem test_decode_branch32_a :
    decode [0xC000, 0x1FFF] = .ok (.bra32 4193792) ∧
    decode [0xC200, 0x1004] = .ok (.bal32 32768 32) ∧
    decode [0xC514, 0x0F94] = .ok (.beq32 500 18 36) ∧
    decode [0xC714, 0x0F94] = .ok (.bne32 500 18 36) ∧
    decode [0xC914, 0x0F94] = .ok (.blts32 500 18 36) ∧
    decode [0xCB14, 0x0F94] = .ok (.bles32 500 18 36) ∧
    decode [0xCD14, 0x0F94] = .ok (.bltu32 500 18 36) ∧
    decode [0xCF14, 0x0F94] = .ok (.bleu32 500 18 36) ∧
    decode [0xD040, 0x0040] = .ok (.jmp32 9) ∧
    decode [0xD240, 0x0044] = .ok (.jal32 9 32) ∧
    decode [0xD454, 0x0054] = .ok (.jeq32 9 18 36) ∧
    decode [0xD654, 0x0054] = .ok (.jne32 9 18 36) := by
  decide

/-- The same words, encoded. -/
theorem test_encode_branch32_a :
    encode (.bra32 4193792) = [0xC000, 0x1FFF] ∧
    encode (.bal32 32768 32) = [0xC200, 0x1004] ∧
    encode (.beq32 500 18 36) = [0xC514, 0x0F94] ∧
    encode (.bne32 500 18 36) = [0xC714, 0x0F94] ∧
    encode (.blts32 500 18 36) = [0xC914, 0x0F94] ∧
    encode (.bles32 500 18 36) = [0xCB14, 0x0F94] ∧
    encode (.bltu32 500 18 36) = [0xCD14, 0x0F94] ∧
    encode (.bleu32 500 18 36) = [0xCF14, 0x0F94] ∧
    encode (.jmp32 9) = [0xD040, 0x0040] ∧
    encode (.jal32 9 32) = [0xD240, 0x0044] ∧
    encode (.jeq32 9 18 36) = [0xD454, 0x0054] ∧
    encode (.jne32 9 18 36) = [0xD654, 0x0054] := by
  decide

/-- The words of the Examples of R242 to R253. -/
theorem test_decode_branch32_b :
    decode [0xD854, 0x0054] = .ok (.jlts32 9 18 36) ∧
    decode [0xDA54, 0x0054] = .ok (.jles32 9 18 36) ∧
    decode [0xDC54, 0x0054] = .ok (.jltu32 9 18 36) ∧
    decode [0xDE54, 0x0054] = .ok (.jleu32 9 18 36) ∧
    decode [0xD080, 0x0240] = .ok (.jmpl32 10) ∧
    decode [0xD280, 0x0244] = .ok (.jall32 10 32) ∧
    decode [0xD494, 0x0254] = .ok (.jeql32 10 18 36) ∧
    decode [0xD694, 0x0254] = .ok (.jnel32 10 18 36) ∧
    decode [0xD894, 0x0254] = .ok (.jltsl32 10 18 36) ∧
    decode [0xDA94, 0x0254] = .ok (.jlesl32 10 18 36) ∧
    decode [0xDC94, 0x0254] = .ok (.jltul32 10 18 36) ∧
    decode [0xDE94, 0x0254] = .ok (.jleul32 10 18 36) := by
  decide

/-- The same words, encoded. -/
theorem test_encode_branch32_b :
    encode (.jlts32 9 18 36) = [0xD854, 0x0054] ∧
    encode (.jles32 9 18 36) = [0xDA54, 0x0054] ∧
    encode (.jltu32 9 18 36) = [0xDC54, 0x0054] ∧
    encode (.jleu32 9 18 36) = [0xDE54, 0x0054] ∧
    encode (.jmpl32 10) = [0xD080, 0x0240] ∧
    encode (.jall32 10 32) = [0xD280, 0x0244] ∧
    encode (.jeql32 10 18 36) = [0xD494, 0x0254] ∧
    encode (.jnel32 10 18 36) = [0xD694, 0x0254] ∧
    encode (.jltsl32 10 18 36) = [0xD894, 0x0254] ∧
    encode (.jlesl32 10 18 36) = [0xDA94, 0x0254] ∧
    encode (.jltul32 10 18 36) = [0xDC94, 0x0254] ∧
    encode (.jleul32 10 18 36) = [0xDE94, 0x0254] := by
  decide

/-! One step of each instruction: the Example of its rule. -/

/-- The Example of R120: `NOP R0,1`. -/
theorem test_nop16 :
    (stepped (start 0x000100 true [0x0001] [] [])).map (fun t => (t.carry, t.pc)) = some (true, 0x000101) := by
  decide

/-- The Example of R121: `ADD R1,R2,R3`. -/
theorem test_add16 :
    (stepped (start 0x000100 false [0x0253] [(2, 0xFFFF), (3, 0x0001)] [])).map
        (fun t => (t.reg 1, t.carry, t.pc)) =
      some (0x0000, true, 0x000101) := by
  decide

/-- The Example of R122: `SUB R1,R2,R3`. -/
theorem test_sub16 :
    (stepped (start 0x000100 false [0x0453] [(2, 0x0003), (3, 0x0005)] [])).map
        (fun t => (t.reg 1, t.carry, t.pc)) =
      some (0xFFFE, true, 0x000101) := by
  decide

/-- The Example of R123: `AND R1,R2,R3`. -/
theorem test_and16 :
    (stepped (start 0x000100 true [0x0653] [(2, 0xF0F0), (3, 0x3C3C)] [])).map
        (fun t => (t.reg 1, t.carry, t.pc)) =
      some (0x3030, true, 0x000101) := by
  decide

/-- The Example of R124: `OR R1,R2,R3`. -/
theorem test_or16 :
    (stepped (start 0x000100 true [0x0853] [(2, 0xF0F0), (3, 0x3C3C)] [])).map
        (fun t => (t.reg 1, t.carry, t.pc)) =
      some (0xFCFC, true, 0x000101) := by
  decide

/-- The Example of R125: `XOR R1,R2,R3`. -/
theorem test_xor16 :
    (stepped (start 0x000100 true [0x0A53] [(2, 0xF0F0), (3, 0x3C3C)] [])).map
        (fun t => (t.reg 1, t.carry, t.pc)) =
      some (0xCCCC, true, 0x000101) := by
  decide

/-- The Example of R126: `ASR R1,R2,R3`. -/
theorem test_asr16 :
    (stepped (start 0x000100 true [0x0C53] [(2, 0x8004), (3, 0x0002)] [])).map
        (fun t => (t.reg 1, t.carry, t.pc)) =
      some (0x6001, false, 0x000101) := by
  decide

/-- The Example of R127: `LSL R1,R2,R3`. -/
theorem test_lsl16 :
    (stepped (start 0x000100 true [0x0E53] [(2, 0x8123), (3, 0x0004)] [])).map
        (fun t => (t.reg 1, t.carry, t.pc)) =
      some (0x1230, true, 0x000101) := by
  decide

/-- The Example of R128: `LSR R1,R2,R3`. -/
theorem test_lsr16 :
    (stepped (start 0x000100 true [0x1053] [(2, 0x8123), (3, 0x0004)] [])).map
        (fun t => (t.reg 1, t.carry, t.pc)) =
      some (0x0812, true, 0x000101) := by
  decide

/-- The Example of R129: `MOV R1,R2`. -/
theorem test_mov16 :
    (stepped (start 0x000100 true [0x1250] [(2, 0xBEEF)] [])).map (fun t => (t.reg 1, t.carry, t.pc)) =
      some (0xBEEF, true, 0x000101) := by
  decide

/-- The Example of R130: `ADDI R1,R2,5`. -/
theorem test_addi16 :
    (stepped (start 0x000100 false [0x1455] [(2, 0xFFFE)] [])).map (fun t => (t.reg 1, t.carry, t.pc)) =
      some (0x0003, true, 0x000101) := by
  decide

/-- The Example of R131: `SUBI R1,R2,7`. -/
theorem test_subi16 :
    (stepped (start 0x000100 false [0x1657] [(2, 0x0002)] [])).map (fun t => (t.reg 1, t.carry, t.pc)) =
      some (0xFFFB, true, 0x000101) := by
  decide

/-- The Example of R132: `ASRI R1,R2,1`. -/
theorem test_asri16 :
    (stepped (start 0x000100 true [0x1850] [(2, 0x0001)] [])).map (fun t => (t.reg 1, t.carry, t.pc)) =
      some (0x8000, false, 0x000101) := by
  decide

/-- The Example of R133: `LSLI R1,R2,8`. -/
theorem test_lsli16 :
    (stepped (start 0x000100 true [0x1A57] [(2, 0x00AB)] [])).map (fun t => (t.reg 1, t.carry, t.pc)) =
      some (0xAB00, true, 0x000101) := by
  decide

/-- The Example of R134: `LSRI R1,R2,1`. -/
theorem test_lsri16 :
    (stepped (start 0x000100 true [0x1C50] [(2, 0x8001)] [])).map (fun t => (t.reg 1, t.carry, t.pc)) =
      some (0x4000, true, 0x000101) := by
  decide

/-- The Example of R135: `MOVI R1,63`. -/
theorem test_movi16 :
    (stepped (start 0x000100 true [0x1E7F] [] [])).map (fun t => (t.reg 1, t.carry, t.pc)) =
      some (0x003F, true, 0x000101) := by
  decide

/-- The Example of R140: `LDB R1,(R2,3)`. -/
theorem test_ldb16 :
    (stepped (start 0x000100 true [0x2053] [(2, 0x0200)] [(0x0203, 0xCD)])).map
        (fun t => (t.reg 1, t.carry, t.pc)) =
      some (0x00CD, true, 0x000101) := by
  decide

/-- The Example of R141: `LDW R1,(R2,3)`. -/
theorem test_ldw16 :
    (stepped (start 0x000100 true [0x2853] [(2, 0x0200)] [(0x0203, 0xCD), (0x0204, 0xAB)])).map
        (fun t => (t.reg 1, t.carry, t.pc)) =
      some (0xABCD, true, 0x000101) := by
  decide

/-- The Example of R142: `LDB R1,(R2+,2)`. -/
theorem test_ldbPost16 :
    (stepped (start 0x000100 true [0x2252] [(2, 0x0200)] [(0x0202, 0xCD)])).map
        (fun t => (t.reg 1, t.reg 2, t.carry, t.pc)) =
      some (0x00CD, 0x0202, true, 0x000101) := by
  decide

/-- The Example of R143: `LDW R1,(R2+,2)`. -/
theorem test_ldwPost16 :
    (stepped (start 0x000100 true [0x2A52] [(2, 0x0200)] [(0x0202, 0xCD), (0x0203, 0xAB)])).map
        (fun t => (t.reg 1, t.reg 2, t.carry, t.pc)) =
      some (0xABCD, 0x0202, true, 0x000101) := by
  decide

/-- The Example of R144: `LDB R1,(-R2,2)`. -/
theorem test_ldbPre16 :
    (stepped (start 0x000100 true [0x2452] [(2, 0x0200)] [(0x01FE, 0xCD)])).map
        (fun t => (t.reg 1, t.reg 2, t.carry, t.pc)) =
      some (0x00CD, 0x01FE, true, 0x000101) := by
  decide

/-- The Example of R145: `LDW R1,(-R2,2)`. -/
theorem test_ldwPre16 :
    (stepped (start 0x000100 true [0x2C52] [(2, 0x0200)] [(0x01FE, 0xCD), (0x01FF, 0xAB)])).map
        (fun t => (t.reg 1, t.reg 2, t.carry, t.pc)) =
      some (0xABCD, 0x01FE, true, 0x000101) := by
  decide

/-- The Example of R146: `STB (R1,-4),R2`. -/
theorem test_stb16 :
    (stepped (start 0x000100 true [0x3054] [(1, 0x0200), (2, 0x1234)] [])).map
        (fun t => (t.dataByte 0x01FC, t.carry, t.pc)) =
      some (some 0x34, true, 0x000101) := by
  decide

/-- The Example of R147: `STW (R1,-4),R2`. -/
theorem test_stw16 :
    (stepped (start 0x000100 true [0x3854] [(1, 0x0200), (2, 0x1234)] [])).map
        (fun t => (t.dataByte 0x01FC, t.dataByte 0x01FD, t.carry, t.pc)) =
      some (some 0x34, some 0x12, true, 0x000101) := by
  decide

/-- The Example of R148: `STB (R1+,2),R2`. -/
theorem test_stbPost16 :
    (stepped (start 0x000100 true [0x3252] [(1, 0x0200), (2, 0x1234)] [])).map
        (fun t => (t.reg 1, t.dataByte 0x0202, t.carry, t.pc)) =
      some (0x0202, some 0x34, true, 0x000101) := by
  decide

/-- The Example of R149: `STW (R1+,2),R2`. -/
theorem test_stwPost16 :
    (stepped (start 0x000100 true [0x3A52] [(1, 0x0200), (2, 0x1234)] [])).map
        (fun t => (t.reg 1, t.dataByte 0x0202, t.dataByte 0x0203, t.carry, t.pc)) =
      some (0x0202, some 0x34, some 0x12, true, 0x000101) := by
  decide

/-- The Example of R150: `STB (-R1,2),R2`. -/
theorem test_stbPre16 :
    (stepped (start 0x000100 true [0x3452] [(1, 0x0200), (2, 0x1234)] [])).map
        (fun t => (t.reg 1, t.dataByte 0x01FE, t.carry, t.pc)) =
      some (0x01FE, some 0x34, true, 0x000101) := by
  decide

/-- The Example of R151: `STW (-R1,2),R2`. -/
theorem test_stwPre16 :
    (stepped (start 0x000100 true [0x3C52] [(1, 0x0200), (2, 0x1234)] [])).map
        (fun t => (t.reg 1, t.dataByte 0x01FE, t.dataByte 0x01FF, t.carry, t.pc)) =
      some (0x01FE, some 0x34, some 0x12, true, 0x000101) := by
  decide

/-- The Example of R160: `BRA -3`. -/
theorem test_bra16 :
    (stepped (start 0x000100 true [0x41FD] [] [])).map (fun t => (t.carry, t.pc)) = some (true, 0x0000FD) := by
  decide

/-- The Example of R161: `BAL 5,R0`. -/
theorem test_bal16 :
    (stepped (start 0x000100 true [0x4228] [] [])).map (fun t => (t.reg 0, t.carry, t.pc)) =
      some (0x0101, true, 0x000105) := by
  decide

/-- The Example of R162: `BEQ -4,R2,R3`. -/
theorem test_beq16 :
    (stepped (start 0x000100 true [0x4513] [(2, 0x0007), (3, 0x0007)] [])).map (fun t => (t.carry, t.pc)) =
      some (true, 0x0000FC) := by
  decide

/-- The Example of R163: `BNE -4,R2,R3`. -/
theorem test_bne16 :
    (stepped (start 0x000100 true [0x4713] [(2, 0x0007), (3, 0x0007)] [])).map (fun t => (t.carry, t.pc)) =
      some (true, 0x000101) := by
  decide

/-- The Example of R164: `BLTS -4,R2,R3`. -/
theorem test_blts16 :
    (stepped (start 0x000100 true [0x4913] [(2, 0xFFFF), (3, 0x0001)] [])).map (fun t => (t.carry, t.pc)) =
      some (true, 0x0000FC) := by
  decide

/-- The Example of R165: `BLES -4,R2,R3`. -/
theorem test_bles16 :
    (stepped (start 0x000100 true [0x4B13] [(2, 0xFFFF), (3, 0x0001)] [])).map (fun t => (t.carry, t.pc)) =
      some (true, 0x0000FC) := by
  decide

/-- The Example of R166: `BLTU -4,R2,R3`. -/
theorem test_bltu16 :
    (stepped (start 0x000100 true [0x4D13] [(2, 0xFFFF), (3, 0x0001)] [])).map (fun t => (t.carry, t.pc)) =
      some (true, 0x000101) := by
  decide

/-- The Example of R167: `BLEU -4,R2,R3`. -/
theorem test_bleu16 :
    (stepped (start 0x000100 true [0x4F13] [(2, 0x0001), (3, 0x0001)] [])).map (fun t => (t.carry, t.pc)) =
      some (true, 0x0000FC) := by
  decide

/-- The Example of R168: `JMP R1`. -/
theorem test_jmp16 :
    (stepped (start 0x000100 true [0x5040] [(1, 0x1234)] [])).map (fun t => (t.carry, t.pc)) =
      some (true, 0x001234) := by
  decide

/-- The Example of R169: `JAL R1,R0`. -/
theorem test_jal16 :
    (stepped (start 0x000100 true [0x5240] [(1, 0x1234)] [])).map (fun t => (t.reg 0, t.carry, t.pc)) =
      some (0x0101, true, 0x001234) := by
  decide

/-- The Example of R170: `JEQ R1,R2,R3`. -/
theorem test_jeq16 :
    (stepped (start 0x000100 true [0x5453] [(1, 0x1234), (2, 0x0007), (3, 0x0007)] [])).map
        (fun t => (t.carry, t.pc)) =
      some (true, 0x001234) := by
  decide

/-- The Example of R171: `JNE R1,R2,R3`. -/
theorem test_jne16 :
    (stepped (start 0x000100 true [0x5653] [(1, 0x1234), (2, 0x0007), (3, 0x0007)] [])).map
        (fun t => (t.carry, t.pc)) =
      some (true, 0x000101) := by
  decide

/-- The Example of R172: `JLTS R1,R2,R3`. -/
theorem test_jlts16 :
    (stepped (start 0x000100 true [0x5853] [(1, 0x1234), (2, 0xFFFF), (3, 0x0001)] [])).map
        (fun t => (t.carry, t.pc)) =
      some (true, 0x001234) := by
  decide

/-- The Example of R173: `JLES R1,R2,R3`. -/
theorem test_jles16 :
    (stepped (start 0x000100 true [0x5A53] [(1, 0x1234), (2, 0xFFFF), (3, 0x0001)] [])).map
        (fun t => (t.carry, t.pc)) =
      some (true, 0x001234) := by
  decide

/-- The Example of R174: `JLTU R1,R2,R3`. -/
theorem test_jltu16 :
    (stepped (start 0x000100 true [0x5C53] [(1, 0x1234), (2, 0xFFFF), (3, 0x0001)] [])).map
        (fun t => (t.carry, t.pc)) =
      some (true, 0x000101) := by
  decide

/-- The Example of R175: `JLEU R1,R2,R3`. -/
theorem test_jleu16 :
    (stepped (start 0x000100 true [0x5E53] [(1, 0x1234), (2, 0x0001), (3, 0x0001)] [])).map
        (fun t => (t.carry, t.pc)) =
      some (true, 0x001234) := by
  decide

/-- The Example of R180: `RTE R1`. -/
theorem test_rte16 :
    (stepped (start 0x000100 true [0x6040] [(1, 0x1234)] [])).map (fun t => (t.carry, t.pc)) =
      some (true, 0x001234) := by
  decide

/-- The Example of R185: `NOP R0,1`. -/
theorem test_nop32 :
    (stepped (start 0x000100 true [0x8001, 0x0000] [] [])).map (fun t => (t.carry, t.pc)) = some (true, 0x000102) := by
  decide

/-- The Example of R186: `ADD R9,R18,R36`. -/
theorem test_add32 :
    (stepped (start 0x000100 false [0x8254, 0x0054] [(18, 0xFFFF), (36, 0x0001)] [])).map
        (fun t => (t.reg 9, t.carry, t.pc)) =
      some (0x0000, true, 0x000102) := by
  decide

/-- The Example of R187: `SUB R9,R18,R36`. -/
theorem test_sub32 :
    (stepped (start 0x000100 false [0x8454, 0x0054] [(18, 0x0003), (36, 0x0005)] [])).map
        (fun t => (t.reg 9, t.carry, t.pc)) =
      some (0xFFFE, true, 0x000102) := by
  decide

/-- The Example of R188: `AND R9,R18,R36`. -/
theorem test_and32 :
    (stepped (start 0x000100 true [0x8654, 0x0054] [(18, 0xF0F0), (36, 0x3C3C)] [])).map
        (fun t => (t.reg 9, t.carry, t.pc)) =
      some (0x3030, true, 0x000102) := by
  decide

/-- The Example of R189: `OR R9,R18,R36`. -/
theorem test_or32 :
    (stepped (start 0x000100 true [0x8854, 0x0054] [(18, 0xF0F0), (36, 0x3C3C)] [])).map
        (fun t => (t.reg 9, t.carry, t.pc)) =
      some (0xFCFC, true, 0x000102) := by
  decide

/-- The Example of R190: `XOR R9,R18,R36`. -/
theorem test_xor32 :
    (stepped (start 0x000100 true [0x8A54, 0x0054] [(18, 0xF0F0), (36, 0x3C3C)] [])).map
        (fun t => (t.reg 9, t.carry, t.pc)) =
      some (0xCCCC, true, 0x000102) := by
  decide

/-- The Example of R191: `ASR R9,R18,R36`. -/
theorem test_asr32 :
    (stepped (start 0x000100 true [0x8C54, 0x0054] [(18, 0x8004), (36, 0x0002)] [])).map
        (fun t => (t.reg 9, t.carry, t.pc)) =
      some (0x6001, false, 0x000102) := by
  decide

/-- The Example of R192: `LSL R9,R18,R36`. -/
theorem test_lsl32 :
    (stepped (start 0x000100 true [0x8E54, 0x0054] [(18, 0x8123), (36, 0x0004)] [])).map
        (fun t => (t.reg 9, t.carry, t.pc)) =
      some (0x1230, true, 0x000102) := by
  decide

/-- The Example of R193: `LSR R9,R18,R36`. -/
theorem test_lsr32 :
    (stepped (start 0x000100 true [0x9054, 0x0054] [(18, 0x8123), (36, 0x0004)] [])).map
        (fun t => (t.reg 9, t.carry, t.pc)) =
      some (0x0812, true, 0x000102) := by
  decide

/-- The Example of R194: `MOV R9,R18`. -/
theorem test_mov32 :
    (stepped (start 0x000100 true [0x9250, 0x0050] [(18, 0xBEEF)] [])).map (fun t => (t.reg 9, t.carry, t.pc)) =
      some (0xBEEF, true, 0x000102) := by
  decide

/-- The Example of R195: `ADDI R9,R18,1000`. -/
theorem test_addi32 :
    (stepped (start 0x000100 false [0x9450, 0x1E55] [(18, 0xFFFE)] [])).map (fun t => (t.reg 9, t.carry, t.pc)) =
      some (0x03E6, true, 0x000102) := by
  decide

/-- The Example of R196: `SUBI R9,R18,1023`. -/
theorem test_subi32 :
    (stepped (start 0x000100 true [0x9657, 0x1E57] [(18, 0x1000)] [])).map (fun t => (t.reg 9, t.carry, t.pc)) =
      some (0x0C01, false, 0x000102) := by
  decide

/-- The Example of R197: `ASRI R9,R18,16`. -/
theorem test_asri32 :
    (stepped (start 0x000100 true [0x9857, 0x0051] [(18, 0xFFFF)] [])).map (fun t => (t.reg 9, t.carry, t.pc)) =
      some (0x0001, false, 0x000102) := by
  decide

/-- The Example of R198: `LSLI R9,R18,12`. -/
theorem test_lsli32 :
    (stepped (start 0x000100 true [0x9A53, 0x0051] [(18, 0x00AB)] [])).map (fun t => (t.reg 9, t.carry, t.pc)) =
      some (0xB000, true, 0x000102) := by
  decide

/-- The Example of R199: `LSRI R9,R18,12`. -/
theorem test_lsri32 :
    (stepped (start 0x000100 true [0x9C53, 0x0051] [(18, 0xABCD)] [])).map (fun t => (t.reg 9, t.carry, t.pc)) =
      some (0x000A, true, 0x000102) := by
  decide

/-- The Example of R200: `MOVI R9,43981`. -/
theorem test_movi32 :
    (stepped (start 0x000100 true [0x9E4D, 0x146F] [] [])).map (fun t => (t.reg 9, t.carry, t.pc)) =
      some (0xABCD, true, 0x000102) := by
  decide

/-- The Example of R201: `ADDC R9,R18,R36`. -/
theorem test_addc32 :
    (stepped (start 0x000100 true [0x8254, 0x0254] [(18, 0xFFFF), (36, 0x0000)] [])).map
        (fun t => (t.reg 9, t.carry, t.pc)) =
      some (0x0000, true, 0x000102) := by
  decide

/-- The Example of R202: `SUBC R9,R18,R36`. -/
theorem test_subc32 :
    (stepped (start 0x000100 true [0x8454, 0x0254] [(18, 0x0005), (36, 0x0005)] [])).map
        (fun t => (t.reg 9, t.carry, t.pc)) =
      some (0xFFFF, true, 0x000102) := by
  decide

/-- The Example of R203: `ANDI R9,R18,421`. -/
theorem test_andi32 :
    (stepped (start 0x000100 true [0x8655, 0x1A54] [(18, 0xFFFF)] [])).map (fun t => (t.reg 9, t.carry, t.pc)) =
      some (0x01A5, true, 0x000102) := by
  decide

/-- The Example of R204: `ORI R9,R18,511`. -/
theorem test_ori32 :
    (stepped (start 0x000100 true [0x8857, 0x1E57] [(18, 0x8000)] [])).map (fun t => (t.reg 9, t.carry, t.pc)) =
      some (0x81FF, true, 0x000102) := by
  decide

/-- The Example of R205: `XORI R9,R18,341`. -/
theorem test_xori32 :
    (stepped (start 0x000100 true [0x8A55, 0x1652] [(18, 0x00FF)] [])).map (fun t => (t.reg 9, t.carry, t.pc)) =
      some (0x01AA, true, 0x000102) := by
  decide

/-- The Example of R210: `LDB R9,(R18,-300)`. -/
theorem test_ldb32 :
    (stepped (start 0x000100 true [0xA054, 0x1652] [(18, 0x0200)] [(0x00D4, 0xCD)])).map
        (fun t => (t.reg 9, t.carry, t.pc)) =
      some (0x00CD, true, 0x000102) := by
  decide

/-- The Example of R211: `LDW R9,(R18,-300)`. -/
theorem test_ldw32 :
    (stepped (start 0x000100 true [0xA854, 0x1652] [(18, 0x0200)] [(0x00D4, 0xCD), (0x00D5, 0xAB)])).map
        (fun t => (t.reg 9, t.carry, t.pc)) =
      some (0xABCD, true, 0x000102) := by
  decide

/-- The Example of R212: `LDB R9,(R18+,511)`. -/
theorem test_ldbPost32 :
    (stepped (start 0x000100 true [0xA257, 0x0E57] [(18, 0x0200)] [(0x03FF, 0xCD)])).map
        (fun t => (t.reg 9, t.reg 18, t.carry, t.pc)) =
      some (0x00CD, 0x03FF, true, 0x000102) := by
  decide

/-- The Example of R213: `LDW R9,(R18+,511)`. -/
theorem test_ldwPost32 :
    (stepped (start 0x000100 true [0xAA57, 0x0E57] [(18, 0x0200)] [(0x03FF, 0xCD), (0x0400, 0xAB)])).map
        (fun t => (t.reg 9, t.reg 18, t.carry, t.pc)) =
      some (0xABCD, 0x03FF, true, 0x000102) := by
  decide

/-- The Example of R214: `LDB R9,(-R18,-512)`. -/
theorem test_ldbPre32 :
    (stepped (start 0x000100 true [0xA450, 0x1050] [(18, 0x0200)] [(0x0400, 0xCD)])).map
        (fun t => (t.reg 9, t.reg 18, t.carry, t.pc)) =
      some (0x00CD, 0x0400, true, 0x000102) := by
  decide

/-- The Example of R215: `LDW R9,(-R18,-512)`. -/
theorem test_ldwPre32 :
    (stepped (start 0x000100 true [0xAC50, 0x1050] [(18, 0x0200)] [(0x0400, 0xCD), (0x0401, 0xAB)])).map
        (fun t => (t.reg 9, t.reg 18, t.carry, t.pc)) =
      some (0xABCD, 0x0400, true, 0x000102) := by
  decide

/-- The Example of R216: `STB (R9,300),R18`. -/
theorem test_stb32 :
    (stepped (start 0x000100 true [0xB054, 0x0855] [(9, 0x0200), (18, 0x1234)] [])).map
        (fun t => (t.dataByte 0x032C, t.carry, t.pc)) =
      some (some 0x34, true, 0x000102) := by
  decide

/-- The Example of R217: `STW (R9,300),R18`. -/
theorem test_stw32 :
    (stepped (start 0x000100 true [0xB854, 0x0855] [(9, 0x0200), (18, 0x1234)] [])).map
        (fun t => (t.dataByte 0x032C, t.dataByte 0x032D, t.carry, t.pc)) =
      some (some 0x34, some 0x12, true, 0x000102) := by
  decide

/-- The Example of R218: `STB (R9+,-2),R18`. -/
theorem test_stbPost32 :
    (stepped (start 0x000100 true [0xB256, 0x1E57] [(9, 0x0200), (18, 0x1234)] [])).map
        (fun t => (t.reg 9, t.dataByte 0x01FE, t.carry, t.pc)) =
      some (0x01FE, some 0x34, true, 0x000102) := by
  decide

/-- The Example of R219: `STW (R9+,-2),R18`. -/
theorem test_stwPost32 :
    (stepped (start 0x000100 true [0xBA56, 0x1E57] [(9, 0x0200), (18, 0x1234)] [])).map
        (fun t => (t.reg 9, t.dataByte 0x01FE, t.dataByte 0x01FF, t.carry, t.pc)) =
      some (0x01FE, some 0x34, some 0x12, true, 0x000102) := by
  decide

/-- The Example of R220: `STB (-R9,2),R18`. -/
theorem test_stbPre32 :
    (stepped (start 0x000100 true [0xB452, 0x0050] [(9, 0x0200), (18, 0x1234)] [])).map
        (fun t => (t.reg 9, t.dataByte 0x01FE, t.carry, t.pc)) =
      some (0x01FE, some 0x34, true, 0x000102) := by
  decide

/-- The Example of R221: `STW (-R9,2),R18`. -/
theorem test_stwPre32 :
    (stepped (start 0x000100 true [0xBC52, 0x0050] [(9, 0x0200), (18, 0x1234)] [])).map
        (fun t => (t.reg 9, t.dataByte 0x01FE, t.dataByte 0x01FF, t.carry, t.pc)) =
      some (0x01FE, some 0x34, some 0x12, true, 0x000102) := by
  decide

/-- The Example of R230: `BRA -512`. -/
theorem test_bra32 :
    (stepped (start 0x000100 true [0xC000, 0x1FFF] [] [])).map (fun t => (t.carry, t.pc)) = some (true, 0xFFFF00) := by
  decide

/-- The Example of R231: `BAL -32768,R32`. -/
theorem test_bal32 :
    (stepped (start 0x000100 true [0xC200, 0x1004] [] [])).map (fun t => (t.reg 32, t.carry, t.pc)) =
      some (0x0102, true, 0xFF8100) := by
  decide

/-- The Example of R232: `BEQ 500,R18,R36`. -/
theorem test_beq32 :
    (stepped (start 0x000100 true [0xC514, 0x0F94] [(18, 0x0007), (36, 0x0007)] [])).map
        (fun t => (t.carry, t.pc)) =
      some (true, 0x0002F4) := by
  decide

/-- The Example of R233: `BNE 500,R18,R36`. -/
theorem test_bne32 :
    (stepped (start 0x000100 true [0xC714, 0x0F94] [(18, 0x0007), (36, 0x0007)] [])).map
        (fun t => (t.carry, t.pc)) =
      some (true, 0x000102) := by
  decide

/-- The Example of R234: `BLTS 500,R18,R36`. -/
theorem test_blts32 :
    (stepped (start 0x000100 true [0xC914, 0x0F94] [(18, 0xFFFF), (36, 0x0001)] [])).map
        (fun t => (t.carry, t.pc)) =
      some (true, 0x0002F4) := by
  decide

/-- The Example of R235: `BLES 500,R18,R36`. -/
theorem test_bles32 :
    (stepped (start 0x000100 true [0xCB14, 0x0F94] [(18, 0xFFFF), (36, 0x0001)] [])).map
        (fun t => (t.carry, t.pc)) =
      some (true, 0x0002F4) := by
  decide

/-- The Example of R236: `BLTU 500,R18,R36`. -/
theorem test_bltu32 :
    (stepped (start 0x000100 true [0xCD14, 0x0F94] [(18, 0xFFFF), (36, 0x0001)] [])).map
        (fun t => (t.carry, t.pc)) =
      some (true, 0x000102) := by
  decide

/-- The Example of R237: `BLEU 500,R18,R36`. -/
theorem test_bleu32 :
    (stepped (start 0x000100 true [0xCF14, 0x0F94] [(18, 0x0001), (36, 0x0001)] [])).map
        (fun t => (t.carry, t.pc)) =
      some (true, 0x0002F4) := by
  decide

/-- The Example of R238: `JMP R9`. -/
theorem test_jmp32 :
    (stepped (start 0x000100 true [0xD040, 0x0040] [(9, 0x1234)] [])).map (fun t => (t.carry, t.pc)) =
      some (true, 0x001234) := by
  decide

/-- The Example of R239: `JAL R9,R32`. -/
theorem test_jal32 :
    (stepped (start 0x000100 true [0xD240, 0x0044] [(9, 0x1234)] [])).map (fun t => (t.reg 32, t.carry, t.pc)) =
      some (0x0102, true, 0x001234) := by
  decide

/-- The Example of R240: `JEQ R9,R18,R36`. -/
theorem test_jeq32 :
    (stepped (start 0x000100 true [0xD454, 0x0054] [(9, 0x1234), (18, 0x0007), (36, 0x0007)] [])).map
        (fun t => (t.carry, t.pc)) =
      some (true, 0x001234) := by
  decide

/-- The Example of R241: `JNE R9,R18,R36`. -/
theorem test_jne32 :
    (stepped (start 0x000100 true [0xD654, 0x0054] [(9, 0x1234), (18, 0x0007), (36, 0x0007)] [])).map
        (fun t => (t.carry, t.pc)) =
      some (true, 0x000102) := by
  decide

/-- The Example of R242: `JLTS R9,R18,R36`. -/
theorem test_jlts32 :
    (stepped (start 0x000100 true [0xD854, 0x0054] [(9, 0x1234), (18, 0xFFFF), (36, 0x0001)] [])).map
        (fun t => (t.carry, t.pc)) =
      some (true, 0x001234) := by
  decide

/-- The Example of R243: `JLES R9,R18,R36`. -/
theorem test_jles32 :
    (stepped (start 0x000100 true [0xDA54, 0x0054] [(9, 0x1234), (18, 0xFFFF), (36, 0x0001)] [])).map
        (fun t => (t.carry, t.pc)) =
      some (true, 0x001234) := by
  decide

/-- The Example of R244: `JLTU R9,R18,R36`. -/
theorem test_jltu32 :
    (stepped (start 0x000100 true [0xDC54, 0x0054] [(9, 0x1234), (18, 0xFFFF), (36, 0x0001)] [])).map
        (fun t => (t.carry, t.pc)) =
      some (true, 0x000102) := by
  decide

/-- The Example of R245: `JLEU R9,R18,R36`. -/
theorem test_jleu32 :
    (stepped (start 0x000100 true [0xDE54, 0x0054] [(9, 0x1234), (18, 0x0001), (36, 0x0001)] [])).map
        (fun t => (t.carry, t.pc)) =
      some (true, 0x001234) := by
  decide

/-- The Example of R246: `JMPL R10`. -/
theorem test_jmpl32 :
    (stepped (start 0x000100 true [0xD080, 0x0240] [(10, 0x5678), (11, 0xAB12)] [])).map
        (fun t => (t.carry, t.pc)) =
      some (true, 0x125678) := by
  decide

/-- The Example of R247: `JALL R10,R32`. -/
theorem test_jall32 :
    (stepped (start 0x000100 true [0xD280, 0x0244] [(10, 0x5678), (11, 0xAB12)] [])).map
        (fun t => (t.reg 32, t.carry, t.pc)) =
      some (0x0102, true, 0x125678) := by
  decide

/-- The Example of R248: `JEQL R10,R18,R36`. -/
theorem test_jeql32 :
    (stepped (start 0x000100 true [0xD494, 0x0254] [(10, 0x5678), (11, 0xAB12), (18, 0x0007), (36, 0x0007)] [])).map
        (fun t => (t.carry, t.pc)) =
      some (true, 0x125678) := by
  decide

/-- The Example of R249: `JNEL R10,R18,R36`. -/
theorem test_jnel32 :
    (stepped (start 0x000100 true [0xD694, 0x0254] [(10, 0x5678), (11, 0xAB12), (18, 0x0007), (36, 0x0007)] [])).map
        (fun t => (t.carry, t.pc)) =
      some (true, 0x000102) := by
  decide

/-- The Example of R250: `JLTSL R10,R18,R36`. -/
theorem test_jltsl32 :
    (stepped (start 0x000100 true [0xD894, 0x0254] [(10, 0x5678), (11, 0xAB12), (18, 0xFFFF), (36, 0x0001)] [])).map
        (fun t => (t.carry, t.pc)) =
      some (true, 0x125678) := by
  decide

/-- The Example of R251: `JLESL R10,R18,R36`. -/
theorem test_jlesl32 :
    (stepped (start 0x000100 true [0xDA94, 0x0254] [(10, 0x5678), (11, 0xAB12), (18, 0xFFFF), (36, 0x0001)] [])).map
        (fun t => (t.carry, t.pc)) =
      some (true, 0x125678) := by
  decide

/-- The Example of R252: `JLTUL R10,R18,R36`. -/
theorem test_jltul32 :
    (stepped (start 0x000100 true [0xDC94, 0x0254] [(10, 0x5678), (11, 0xAB12), (18, 0xFFFF), (36, 0x0001)] [])).map
        (fun t => (t.carry, t.pc)) =
      some (true, 0x000102) := by
  decide

/-- The Example of R253: `JLEUL R10,R18,R36`. -/
theorem test_jleul32 :
    (stepped (start 0x000100 true [0xDE94, 0x0254] [(10, 0x5678), (11, 0xAB12), (18, 0x0001), (36, 0x0001)] [])).map
        (fun t => (t.carry, t.pc)) =
      some (true, 0x125678) := by
  decide

/-! One further vector of 95_test_vectors.md for an instruction. -/

/-- Vector T4: `ADD R1,R1,R1`. -/
theorem test_t4 :
    (stepped (start 0x000100 false [0x0249] [(1, 0x8000)] [])).map (fun t => (t.reg 1, t.carry, t.pc)) =
      some (0x0000, true, 0x000101) := by
  decide

/-- Vector T8: `SUB R1,R2,R3`. -/
theorem test_t8 :
    (stepped (start 0x000100 true [0x0453] [(2, 0x8000), (3, 0x7FFF)] [])).map
        (fun t => (t.reg 1, t.carry, t.pc)) =
      some (0x0001, false, 0x000101) := by
  decide

/-- Vector T9: `AND R7,R6,R5`. -/
theorem test_t9 :
    (stepped (start 0x000100 true [0x07F5] [(5, 0xFF00), (6, 0xF0F0)] [])).map
        (fun t => (t.reg 7, t.carry, t.pc)) =
      some (0xF000, true, 0x000101) := by
  decide

/-- Vector T10: `OR R7,R6,R5`. -/
theorem test_t10 :
    (stepped (start 0x000100 true [0x09F5] [(5, 0x0F00), (6, 0xF0F0)] [])).map
        (fun t => (t.reg 7, t.carry, t.pc)) =
      some (0xFFF0, true, 0x000101) := by
  decide

/-- Vector T11: `XOR R4,R4,R4`. -/
theorem test_t11 :
    (stepped (start 0x000100 false [0x0B24] [(4, 0xBEEF)] [])).map (fun t => (t.reg 4, t.carry, t.pc)) =
      some (0x0000, false, 0x000101) := by
  decide

/-- Vector T18: `ASR R1,R2,R3`. -/
theorem test_t18 :
    (stepped (start 0x000100 true [0x0C53] [(2, 0xFFFF), (3, 0xFFFF)] [])).map
        (fun t => (t.reg 1, t.carry, t.pc)) =
      some (0x0000, false, 0x000101) := by
  decide

/-- Vector T24: `LSL R1,R2,R3`. -/
theorem test_t24 :
    (stepped (start 0x000100 true [0x0E53] [(2, 0xABCD), (3, 0x0000)] [])).map
        (fun t => (t.reg 1, t.carry, t.pc)) =
      some (0xABCD, true, 0x000101) := by
  decide

/-- Vector T27: `LSR R1,R2,R3`. -/
theorem test_t27 :
    (stepped (start 0x000100 true [0x1053] [(2, 0xFFFF), (3, 0x0010)] [])).map
        (fun t => (t.reg 1, t.carry, t.pc)) =
      some (0x0000, true, 0x000101) := by
  decide

/-- Vector T28: `MOV R0,R7`. -/
theorem test_t28 :
    (stepped (start 0x000100 true [0x1238] [(7, 0xCAFE)] [])).map (fun t => (t.reg 0, t.carry, t.pc)) =
      some (0xCAFE, true, 0x000101) := by
  decide

/-- Vector T30: `ADDI R1,R2,7`. -/
theorem test_t30 :
    (stepped (start 0x000100 false [0x1457] [(2, 0xFFF9)] [])).map (fun t => (t.reg 1, t.carry, t.pc)) =
      some (0x0000, true, 0x000101) := by
  decide

/-- Vector T32: `SUBI R1,R2,7`. -/
theorem test_t32 :
    (stepped (start 0x000100 true [0x1657] [(2, 0x0007)] [])).map (fun t => (t.reg 1, t.carry, t.pc)) =
      some (0x0000, false, 0x000101) := by
  decide

/-- Vector T34: `LSLI R1,R2,8`. -/
theorem test_t34 :
    (stepped (start 0x000100 true [0x1A57] [(2, 0x01FF)] [])).map (fun t => (t.reg 1, t.carry, t.pc)) =
      some (0xFF00, true, 0x000101) := by
  decide

/-- Vector T36: `LSRI R1,R2,8`. -/
theorem test_t36 :
    (stepped (start 0x000100 true [0x1C57] [(2, 0xABCD)] [])).map (fun t => (t.reg 1, t.carry, t.pc)) =
      some (0x00AB, true, 0x000101) := by
  decide

/-- Vector T39: `ASRI R1,R2,4`. -/
theorem test_t39 :
    (stepped (start 0x000100 true [0x1853] [(2, 0x00F0)] [])).map (fun t => (t.reg 1, t.carry, t.pc)) =
      some (0x100F, false, 0x000101) := by
  decide

/-- Vector T41: `MOVI R5,0`. -/
theorem test_t41 :
    (stepped (start 0x000100 true [0x1F40] [(5, 0xFFFF)] [])).map (fun t => (t.reg 5, t.carry, t.pc)) =
      some (0x0000, true, 0x000101) := by
  decide

/-- Vector T43: `ADD R1,R2,R3`. -/
theorem test_t43 :
    (stepped (start 0x000100 true [0x8253, 0x0000] [(2, 0x0001), (3, 0x0002)] [])).map
        (fun t => (t.reg 1, t.carry, t.pc)) =
      some (0x0003, false, 0x000102) := by
  decide

/-- Vector T44: `SUB R9,R10,R11`. -/
theorem test_t44 :
    (stepped (start 0x000100 false [0x8453, 0x0049] [(10, 0x0001), (11, 0xFFFF)] [])).map
        (fun t => (t.reg 9, t.carry, t.pc)) =
      some (0x0002, true, 0x000102) := by
  decide

/-- Vector T45: `AND R40,R41,R42`. -/
theorem test_t45 :
    (stepped (start 0x000100 true [0x860A, 0x016D] [(41, 0x00FF), (42, 0x0FF0)] [])).map
        (fun t => (t.reg 40, t.carry, t.pc)) =
      some (0x00F0, true, 0x000102) := by
  decide

/-- Vector T46: `OR R40,R41,R42`. -/
theorem test_t46 :
    (stepped (start 0x000100 true [0x880A, 0x016D] [(41, 0x00FF), (42, 0x0FF0)] [])).map
        (fun t => (t.reg 40, t.carry, t.pc)) =
      some (0x0FFF, true, 0x000102) := by
  decide

/-- Vector T47: `XOR R40,R41,R42`. -/
theorem test_t47 :
    (stepped (start 0x000100 true [0x8A0A, 0x016D] [(41, 0x00FF), (42, 0x0FF0)] [])).map
        (fun t => (t.reg 40, t.carry, t.pc)) =
      some (0x0F0F, true, 0x000102) := by
  decide

/-- Vector T48: `ASR R16,R17,R18`. -/
theorem test_t48 :
    (stepped (start 0x000100 true [0x8C0A, 0x0092] [(17, 0x0002), (18, 0x0001)] [])).map
        (fun t => (t.reg 16, t.carry, t.pc)) =
      some (0x8001, false, 0x000102) := by
  decide

/-- Vector T49: `LSL R16,R17,R18`. -/
theorem test_t49 :
    (stepped (start 0x000100 true [0x8E0A, 0x0092] [(17, 0x00FF), (18, 0x0008)] [])).map
        (fun t => (t.reg 16, t.carry, t.pc)) =
      some (0xFF00, true, 0x000102) := by
  decide

/-- Vector T50: `LSR R16,R17,R18`. -/
theorem test_t50 :
    (stepped (start 0x000100 true [0x900A, 0x0092] [(17, 0xFF00), (18, 0x0008)] [])).map
        (fun t => (t.reg 16, t.carry, t.pc)) =
      some (0x00FF, true, 0x000102) := by
  decide

/-- Vector T51: `MOV R63,R0`. -/
theorem test_t51 :
    (stepped (start 0x000100 true [0x93C0, 0x01C0] [(0, 0x0F0F)] [])).map (fun t => (t.reg 63, t.carry, t.pc)) =
      some (0x0F0F, true, 0x000102) := by
  decide

/-- Vector T53: `ADDI R8,R9,0`. -/
theorem test_t53 :
    (stepped (start 0x000100 true [0x9408, 0x0048] [(9, 0x1234)] [])).map (fun t => (t.reg 8, t.carry, t.pc)) =
      some (0x1234, false, 0x000102) := by
  decide

/-- Vector T54: `SUBI R8,R9,1023`. -/
theorem test_t54 :
    (stepped (start 0x000100 false [0x960F, 0x1E4F] [(9, 0x03FE)] [])).map (fun t => (t.reg 8, t.carry, t.pc)) =
      some (0xFFFF, true, 0x000102) := by
  decide

/-- Vector T58: `LSLI R8,R9,64`. -/
theorem test_t58 :
    (stepped (start 0x000100 true [0x9A0F, 0x004F] [(9, 0xFFFF)] [])).map (fun t => (t.reg 8, t.carry, t.pc)) =
      some (0x0000, true, 0x000102) := by
  decide

/-- Vector T60: `LSRI R8,R9,12`. -/
theorem test_t60 :
    (stepped (start 0x000100 true [0x9C0B, 0x0049] [(9, 0xABCD)] [])).map (fun t => (t.reg 8, t.carry, t.pc)) =
      some (0x000A, true, 0x000102) := by
  decide

/-- Vector T62: `ASRI R8,R9,17`. -/
theorem test_t62 :
    (stepped (start 0x000100 true [0x9808, 0x004A] [(9, 0xFFFF)] [])).map (fun t => (t.reg 8, t.carry, t.pc)) =
      some (0x0000, false, 0x000102) := by
  decide

/-- Vector T64: `MOVI R1,33825`. -/
theorem test_t64 :
    (stepped (start 0x000100 false [0x9E61, 0x1010] [] [])).map (fun t => (t.reg 1, t.carry, t.pc)) =
      some (0x8421, false, 0x000102) := by
  decide

/-- Vector T67: `ADDC R1,R2,R3`. -/
theorem test_t67 :
    (stepped (start 0x000100 false [0x8253, 0x0200] [(2, 0x0001), (3, 0x0002)] [])).map
        (fun t => (t.reg 1, t.carry, t.pc)) =
      some (0x0003, false, 0x000102) := by
  decide

/-- Vector T71: `SUBC R1,R2,R3`. -/
theorem test_t71 :
    (stepped (start 0x000100 true [0x8453, 0x0200] [(2, 0x0005), (3, 0x0005)] [])).map
        (fun t => (t.reg 1, t.carry, t.pc)) =
      some (0xFFFF, true, 0x000102) := by
  decide

/-- Vector T72: `ANDI R1,R2,511`. -/
theorem test_t72 :
    (stepped (start 0x000100 true [0x8657, 0x1E07] [(2, 0xFFFF)] [])).map (fun t => (t.reg 1, t.carry, t.pc)) =
      some (0x01FF, true, 0x000102) := by
  decide

/-- Vector T73: `ORI R1,R2,341`. -/
theorem test_t73 :
    (stepped (start 0x000100 true [0x8855, 0x1602] [(2, 0x8000)] [])).map (fun t => (t.reg 1, t.carry, t.pc)) =
      some (0x8155, true, 0x000102) := by
  decide

/-- Vector T74: `XORI R1,R2,511`. -/
theorem test_t74 :
    (stepped (start 0x000100 true [0x8A57, 0x1E07] [(2, 0x01FF)] [])).map (fun t => (t.reg 1, t.carry, t.pc)) =
      some (0x0000, true, 0x000102) := by
  decide

/-- Vector T79: `NOP R40,2`. -/
theorem test_t79 :
    (stepped (configured { Config.standard with nop32 := .as16 } (start 0x000100 true [0x8002, 0x0140] [(40, 0x002A)] []))).map
        (fun t => (t.carry, t.pc, t.run)) =
      some (true, 0x000102, (.exited 0x002A : RunState)) := by
  decide

/-- Vector T86: `LDW R2,(R2,0)`. -/
theorem test_t86 :
    (stepped (start 0x000100 true [0x2890] [(2, 0x0200)] [(0x0200, 0x78), (0x0201, 0x56)])).map
        (fun t => (t.reg 2, t.carry, t.pc)) =
      some (0x5678, true, 0x000101) := by
  decide

/-- Vector T84: `LDB R1,(R2,3)`. -/
theorem test_t84 :
    (stepped (start 0x000100 true [0x2053] [(2, 0xFFFF)] [(0x0002, 0x5A)])).map
        (fun t => (t.reg 1, t.carry, t.pc)) =
      some (0x005A, true, 0x000101) := by
  decide

/-- Vector T90: `LDB R1,(R2+,0)`. -/
theorem test_t90 :
    (stepped (start 0x000100 true [0x2250] [(2, 0x0200)] [(0x0200, 0x7F)])).map
        (fun t => (t.reg 1, t.carry, t.pc)) =
      some (0x007F, true, 0x000101) := by
  decide

/-- Vector T89: `LDW R1,(R2+,-2)`. -/
theorem test_t89 :
    (stepped (start 0x000100 true [0x2A56] [(2, 0x0200)] [(0x01FE, 0x01), (0x01FF, 0x02)])).map
        (fun t => (t.reg 1, t.reg 2, t.carry, t.pc)) =
      some (0x0201, 0x01FE, true, 0x000101) := by
  decide

/-- Vector T91: `LDB R1,(-R2,1)`. -/
theorem test_t91 :
    (stepped (start 0x000100 true [0x2451] [(2, 0x0201)] [(0x0200, 0xAA), (0x0201, 0xBB)])).map
        (fun t => (t.reg 1, t.reg 2, t.carry, t.pc)) =
      some (0x00AA, 0x0200, true, 0x000101) := by
  decide

/-- Vector T94: `LDW R1,(-R2,2)`. -/
theorem test_t94 :
    (stepped (start 0x000100 true [0x2C52] [(2, 0x0001)] [(0x0000, 0x88), (0xFFFF, 0x99)])).map
        (fun t => (t.reg 1, t.reg 2, t.carry, t.pc)) =
      some (0x8899, 0xFFFF, true, 0x000101) := by
  decide

/-- Vector T99: `STW (R1,0),R1`. -/
theorem test_t99 :
    (stepped (start 0x000100 true [0x3848] [(1, 0x0300)] [])).map
        (fun t => (t.dataByte 0x0300, t.dataByte 0x0301, t.carry, t.pc)) =
      some (some 0x00, some 0x03, true, 0x000101) := by
  decide

/-- Vector T98: `STB (R1,3),R2`. -/
theorem test_t98 :
    (stepped (start 0x000100 true [0x3053] [(1, 0x0300), (2, 0x1234)] [(0x0304, 0xEE)])).map
        (fun t => (t.dataByte 0x0303, t.carry, t.pc)) =
      some (some 0x34, true, 0x000101) := by
  decide

/-- Vector T100: `STB (R1+,1),R2`. -/
theorem test_t100 :
    (stepped (start 0x000100 true [0x3251] [(1, 0x0300), (2, 0x00AB)] [])).map
        (fun t => (t.reg 1, t.dataByte 0x0301, t.carry, t.pc)) =
      some (0x0301, some 0xAB, true, 0x000101) := by
  decide

/-- Vector T102: `STW (R3+,2),R3`. -/
theorem test_t102 :
    (stepped (start 0x000100 true [0x3ADA] [(3, 0x0300)] [])).map
        (fun t => (t.reg 3, t.dataByte 0x0302, t.dataByte 0x0303, t.carry, t.pc)) =
      some (0x0302, some 0x00, some 0x03, true, 0x000101) := by
  decide

/-- Vector T103: `STB (-R1,1),R2`. -/
theorem test_t103 :
    (stepped (start 0x000100 true [0x3451] [(1, 0x0300), (2, 0x00AB)] [])).map
        (fun t => (t.reg 1, t.dataByte 0x02FF, t.carry, t.pc)) =
      some (0x02FF, some 0xAB, true, 0x000101) := by
  decide

/-- Vector T105: `STW (-R1,2),R2`. -/
theorem test_t105 :
    (stepped (start 0x000100 true [0x3C52] [(1, 0x0001), (2, 0xBEEF)] [])).map
        (fun t => (t.reg 1, t.dataByte 0x0000, t.dataByte 0xFFFF, t.carry, t.pc)) =
      some (0xFFFF, some 0xBE, some 0xEF, true, 0x000101) := by
  decide

/-- Vector T127: `LDW R8,(R9,0)`. -/
theorem test_t127 :
    (stepped (configured { Config.standard with dmemBytes := 32768 } (start 0x000100 true [0xA808, 0x0048] [(9, 0x8000)] []))).map
        (fun t => (t.carry, t.pc, t.busErrors)) =
      some (true, 0x000002, [.data 0x8000]) := by
  decide

/-- Vector T114: `LDB R20,(R21,-512)`. -/
theorem test_t114 :
    (stepped (start 0x000100 true [0xA128, 0x1090] [(21, 0x1000)] [(0x0E00, 0x81)])).map
        (fun t => (t.reg 20, t.carry, t.pc)) =
      some (0x0081, true, 0x000102) := by
  decide

/-- Vector T115: `LDB R8,(R9+,100)`. -/
theorem test_t115 :
    (stepped (start 0x000100 true [0xA20C, 0x024C] [(9, 0x0100)] [(0x0164, 0x42)])).map
        (fun t => (t.reg 8, t.reg 9, t.carry, t.pc)) =
      some (0x0042, 0x0164, true, 0x000102) := by
  decide

/-- Vector T116: `LDW R8,(R9+,-2)`. -/
theorem test_t116 :
    (stepped (start 0x000100 true [0xAA0E, 0x1E4F] [(9, 0x0100)] [(0x00FE, 0x02), (0x00FF, 0x01)])).map
        (fun t => (t.reg 8, t.reg 9, t.carry, t.pc)) =
      some (0x0102, 0x00FE, true, 0x000102) := by
  decide

/-- Vector T117: `LDB R8,(-R9,256)`. -/
theorem test_t117 :
    (stepped (start 0x000100 true [0xA408, 0x0848] [(9, 0x0100)] [(0x0000, 0x99)])).map
        (fun t => (t.reg 8, t.reg 9, t.carry, t.pc)) =
      some (0x0099, 0x0000, true, 0x000102) := by
  decide

/-- Vector T118: `LDW R8,(-R9,2)`. -/
theorem test_t118 :
    (stepped (start 0x000100 true [0xAC0A, 0x0048] [(9, 0x0100)] [(0x00FE, 0x02), (0x00FF, 0x01)])).map
        (fun t => (t.reg 8, t.reg 9, t.carry, t.pc)) =
      some (0x0102, 0x00FE, true, 0x000102) := by
  decide

/-- Vector T120: `STB (R62,-1),R63`. -/
theorem test_t120 :
    (stepped (start 0x000100 true [0xB1BF, 0x1FFF] [(62, 0x0000), (63, 0xA55A)] [])).map
        (fun t => (t.dataByte 0xFFFF, t.carry, t.pc)) =
      some (some 0x5A, true, 0x000102) := by
  decide

/-- Vector T121: `STW (R62,300),R63`. -/
theorem test_t121 :
    (stepped (start 0x000100 true [0xB9BC, 0x09FD] [(62, 0x0100), (63, 0xA55A)] [])).map
        (fun t => (t.dataByte 0x022C, t.dataByte 0x022D, t.carry, t.pc)) =
      some (some 0x5A, some 0xA5, true, 0x000102) := by
  decide

/-- Vector T122: `STB (R10+,1),R11`. -/
theorem test_t122 :
    (stepped (start 0x000100 true [0xB299, 0x0048] [(10, 0x0100), (11, 0x1234)] [])).map
        (fun t => (t.reg 10, t.dataByte 0x0101, t.carry, t.pc)) =
      some (0x0101, some 0x34, true, 0x000102) := by
  decide

/-- Vector T123: `STW (R10+,2),R11`. -/
theorem test_t123 :
    (stepped (start 0x000100 true [0xBA9A, 0x0048] [(10, 0x0100), (11, 0x1234)] [])).map
        (fun t => (t.reg 10, t.dataByte 0x0102, t.dataByte 0x0103, t.carry, t.pc)) =
      some (0x0102, some 0x34, some 0x12, true, 0x000102) := by
  decide

/-- Vector T124: `STB (-R10,1),R11`. -/
theorem test_t124 :
    (stepped (start 0x000100 true [0xB499, 0x0048] [(10, 0x0100), (11, 0x1234)] [])).map
        (fun t => (t.reg 10, t.dataByte 0x00FF, t.carry, t.pc)) =
      some (0x00FF, some 0x34, true, 0x000102) := by
  decide

/-- Vector T125: `STW (-R10,2),R11`. -/
theorem test_t125 :
    (stepped (start 0x000100 true [0xBC9A, 0x0048] [(10, 0x0100), (11, 0x1234)] [])).map
        (fun t => (t.reg 10, t.dataByte 0x00FE, t.dataByte 0x00FF, t.carry, t.pc)) =
      some (0x00FE, some 0x34, some 0x12, true, 0x000102) := by
  decide

/-- Vector T132: `BRA 1`. -/
theorem test_t132 :
    (stepped (start 0xFFFFFF true [0x4001] [] [])).map (fun t => (t.carry, t.pc)) = some (true, 0x000000) := by
  decide

/-- Vector T136: `BAL 2,R0`. -/
theorem test_t136 :
    (stepped (start 0x123456 true [0x4210] [] [])).map (fun t => (t.reg 0, t.carry, t.pc)) =
      some (0x3457, true, 0x123458) := by
  decide

/-- Vector T139: `BEQ -4,R1,R1`. -/
theorem test_t139 :
    (stepped (start 0x000100 true [0x4509] [(1, 0x0000)] [])).map (fun t => (t.carry, t.pc)) =
      some (true, 0x0000FC) := by
  decide

/-- Vector T141: `BNE 3,R1,R2`. -/
theorem test_t141 :
    (stepped (start 0x000100 true [0x46CA] [(1, 0x0042), (2, 0x0042)] [])).map (fun t => (t.carry, t.pc)) =
      some (true, 0x000101) := by
  decide

/-- Vector T145: `BLTS 2,R1,R2`. -/
theorem test_t145 :
    (stepped (start 0x000100 true [0x488A] [(1, 0x0005), (2, 0x0005)] [])).map (fun t => (t.carry, t.pc)) =
      some (true, 0x000101) := by
  decide

/-- Vector T148: `BLTU 2,R1,R2`. -/
theorem test_t148 :
    (stepped (start 0x000100 true [0x4C8A] [(1, 0x0000), (2, 0xFFFF)] [])).map (fun t => (t.carry, t.pc)) =
      some (true, 0x000102) := by
  decide

/-- Vector T147: `BLES 2,R1,R2`. -/
theorem test_t147 :
    (stepped (start 0x000100 true [0x4A8A] [(1, 0x0000), (2, 0xFFFF)] [])).map (fun t => (t.carry, t.pc)) =
      some (true, 0x000101) := by
  decide

/-- Vector T150: `BLEU 2,R1,R2`. -/
theorem test_t150 :
    (stepped (start 0x000100 true [0x4E8A] [(1, 0xFFFF), (2, 0xFFFE)] [])).map (fun t => (t.carry, t.pc)) =
      some (true, 0x000101) := by
  decide

/-- Vector T151: `JMP R3`. -/
theorem test_t151 :
    (stepped (start 0x123456 true [0x50C0] [(3, 0xFFFF)] [])).map (fun t => (t.carry, t.pc)) =
      some (true, 0x00FFFF) := by
  decide

/-- Vector T152: `JAL R3,R0`. -/
theorem test_t152 :
    (stepped (start 0x000100 true [0x52C0] [(3, 0x0400)] [])).map (fun t => (t.reg 0, t.carry, t.pc)) =
      some (0x0101, true, 0x000400) := by
  decide

/-- Vector T155: `JEQ R3,R1,R2`. -/
theorem test_t155 :
    (stepped (start 0x000100 true [0x54CA] [(1, 0x0007), (2, 0x0008), (3, 0x0400)] [])).map
        (fun t => (t.carry, t.pc)) =
      some (true, 0x000101) := by
  decide

/-- Vector T157: `JNE R3,R1,R2`. -/
theorem test_t157 :
    (stepped (start 0x000100 true [0x56CA] [(1, 0x0007), (2, 0x0008), (3, 0x0400)] [])).map
        (fun t => (t.carry, t.pc)) =
      some (true, 0x000400) := by
  decide

/-- Vector T158: `JLTS R3,R1,R2`. -/
theorem test_t158 :
    (stepped (start 0x000100 true [0x58CA] [(1, 0x8000), (2, 0x0000), (3, 0x0400)] [])).map
        (fun t => (t.carry, t.pc)) =
      some (true, 0x000400) := by
  decide

/-- Vector T159: `JLES R3,R1,R2`. -/
theorem test_t159 :
    (stepped (start 0x000100 true [0x5ACA] [(1, 0x7FFF), (2, 0x8000), (3, 0x0400)] [])).map
        (fun t => (t.carry, t.pc)) =
      some (true, 0x000101) := by
  decide

/-- Vector T160: `JLTU R3,R1,R2`. -/
theorem test_t160 :
    (stepped (start 0x000100 true [0x5CCA] [(1, 0x8000), (2, 0x0000), (3, 0x0400)] [])).map
        (fun t => (t.carry, t.pc)) =
      some (true, 0x000101) := by
  decide

/-- Vector T162: `JLEU R1,R1,R1`. -/
theorem test_t162 :
    (stepped (start 0x000100 true [0x5E49] [(1, 0x0400)] [])).map (fun t => (t.carry, t.pc)) =
      some (true, 0x000400) := by
  decide

/-- Vector T163: `RTE R0`. -/
theorem test_t163 :
    (stepped (start 0x000100 true [0x6000] [(0, 0x0234)] [])).map (fun t => (t.carry, t.pc)) =
      some (true, 0x000234) := by
  decide

/-- Vector T166: `BRA 256`. -/
theorem test_t166 :
    (stepped (start 0x000000 true [0xC100, 0x0000] [] [])).map (fun t => (t.carry, t.pc)) = some (true, 0x000100) := by
  decide

/-- Vector T168: `BAL 32767,R0`. -/
theorem test_t168 :
    (stepped (start 0x000100 true [0xC3F8, 0x0FF8] [] [])).map (fun t => (t.reg 0, t.carry, t.pc)) =
      some (0x0102, true, 0x0080FF) := by
  decide

/-- Vector T170: `BEQ 511,R8,R9`. -/
theorem test_t170 :
    (stepped (start 0x000100 true [0xC5C1, 0x0FC9] [(8, 0x0001), (9, 0x0002)] [])).map
        (fun t => (t.carry, t.pc)) =
      some (true, 0x000102) := by
  decide

/-- Vector T171: `BNE -512,R8,R9`. -/
theorem test_t171 :
    (stepped (start 0x000100 true [0xC601, 0x1009] [(8, 0x0001), (9, 0x0002)] [])).map
        (fun t => (t.carry, t.pc)) =
      some (true, 0xFFFF00) := by
  decide

/-- Vector T172: `BLTS 10,R8,R9`. -/
theorem test_t172 :
    (stepped (start 0x000100 true [0xC881, 0x0049] [(8, 0xFFFE), (9, 0xFFFF)] [])).map
        (fun t => (t.carry, t.pc)) =
      some (true, 0x00010A) := by
  decide

/-- Vector T173: `BLES 10,R8,R9`. -/
theorem test_t173 :
    (stepped (start 0x000100 true [0xCA81, 0x0049] [(8, 0x7FFF), (9, 0x8000)] [])).map
        (fun t => (t.carry, t.pc)) =
      some (true, 0x000102) := by
  decide

/-- Vector T174: `BLTU 10,R8,R9`. -/
theorem test_t174 :
    (stepped (start 0x000100 true [0xCC81, 0x0049] [(8, 0x7FFF), (9, 0x8000)] [])).map
        (fun t => (t.carry, t.pc)) =
      some (true, 0x00010A) := by
  decide

/-- Vector T175: `BLEU 10,R8,R9`. -/
theorem test_t175 :
    (stepped (start 0x000100 true [0xCE81, 0x0049] [(8, 0x8000), (9, 0x7FFF)] [])).map
        (fun t => (t.carry, t.pc)) =
      some (true, 0x000102) := by
  decide

/-- Vector T176: `JMP R63`. -/
theorem test_t176 :
    (stepped (start 0x000100 true [0xD1C0, 0x01C0] [(63, 0x8000)] [])).map (fun t => (t.carry, t.pc)) =
      some (true, 0x008000) := by
  decide

/-- Vector T177: `JAL R32,R33`. -/
theorem test_t177 :
    (stepped (start 0x00FFFE true [0xD201, 0x0104] [(32, 0x0400)] [])).map (fun t => (t.reg 33, t.carry, t.pc)) =
      some (0x0000, true, 0x000400) := by
  decide

/-- Vector T178: `JEQ R32,R8,R9`. -/
theorem test_t178 :
    (stepped (start 0x000100 true [0xD401, 0x0109] [(8, 0x0005), (9, 0x0005), (32, 0x0400)] [])).map
        (fun t => (t.carry, t.pc)) =
      some (true, 0x000400) := by
  decide

/-- Vector T179: `JNE R32,R8,R9`. -/
theorem test_t179 :
    (stepped (start 0x000100 true [0xD601, 0x0109] [(8, 0x0005), (9, 0x0005), (32, 0x0400)] [])).map
        (fun t => (t.carry, t.pc)) =
      some (true, 0x000102) := by
  decide

/-- Vector T180: `JLTS R32,R8,R9`. -/
theorem test_t180 :
    (stepped (start 0x000100 true [0xD801, 0x0109] [(8, 0x8000), (9, 0x0001), (32, 0x0400)] [])).map
        (fun t => (t.carry, t.pc)) =
      some (true, 0x000400) := by
  decide

/-- Vector T181: `JLES R32,R8,R9`. -/
theorem test_t181 :
    (stepped (start 0x000100 true [0xDA01, 0x0109] [(8, 0x0001), (9, 0x0001), (32, 0x0400)] [])).map
        (fun t => (t.carry, t.pc)) =
      some (true, 0x000400) := by
  decide

/-- Vector T182: `JLTU R32,R8,R9`. -/
theorem test_t182 :
    (stepped (start 0x000100 true [0xDC01, 0x0109] [(8, 0x8000), (9, 0x0001), (32, 0x0400)] [])).map
        (fun t => (t.carry, t.pc)) =
      some (true, 0x000102) := by
  decide

/-- Vector T183: `JLEU R32,R8,R9`. -/
theorem test_t183 :
    (stepped (start 0x000100 true [0xDE01, 0x0109] [(8, 0x0001), (9, 0x0001), (32, 0x0400)] [])).map
        (fun t => (t.carry, t.pc)) =
      some (true, 0x000400) := by
  decide

/-- Vector T186: `JMPL R62`. -/
theorem test_t186 :
    (stepped (start 0x000100 true [0xD180, 0x03C0] [(62, 0x0010), (63, 0x0080)] [])).map
        (fun t => (t.carry, t.pc)) =
      some (true, 0x800010) := by
  decide

/-- Vector T190: `JALL R2,R0`. -/
theorem test_t190 :
    (stepped (start 0x020000 true [0xD280, 0x0200] [(2, 0x2345), (3, 0x0001)] [])).map
        (fun t => (t.reg 0, t.carry, t.pc)) =
      some (0x0002, true, 0x012345) := by
  decide

/-- Vector T194: `JEQL R4,R8,R9`. -/
theorem test_t194 :
    (stepped (start 0x000100 true [0xD501, 0x0209] [(4, 0x0000), (5, 0x00FF), (8, 0x0001), (9, 0x0002)] [])).map
        (fun t => (t.carry, t.pc)) =
      some (true, 0x000102) := by
  decide

/-- Vector T196: `JNEL R4,R8,R9`. -/
theorem test_t196 :
    (stepped (start 0x000100 true [0xD701, 0x0209] [(4, 0x1234), (5, 0x0056), (8, 0x0001), (9, 0x0002)] [])).map
        (fun t => (t.carry, t.pc)) =
      some (true, 0x561234) := by
  decide

/-- Vector T197: `JLTSL R4,R8,R9`. -/
theorem test_t197 :
    (stepped (start 0x000100 true [0xD901, 0x0209] [(4, 0x1234), (5, 0x0056), (8, 0xFFFF), (9, 0x0000)] [])).map
        (fun t => (t.carry, t.pc)) =
      some (true, 0x561234) := by
  decide

/-- Vector T198: `JLESL R4,R8,R9`. -/
theorem test_t198 :
    (stepped (start 0x000100 true [0xDB01, 0x0209] [(4, 0x1234), (5, 0x0056), (8, 0x0001), (9, 0x0000)] [])).map
        (fun t => (t.carry, t.pc)) =
      some (true, 0x000102) := by
  decide

/-- Vector T199: `JLTUL R4,R8,R9`. -/
theorem test_t199 :
    (stepped (start 0x000100 true [0xDD01, 0x0209] [(4, 0x1234), (5, 0x0056), (8, 0xFFFF), (9, 0x0000)] [])).map
        (fun t => (t.carry, t.pc)) =
      some (true, 0x000102) := by
  decide

/-- Vector T200: `JLEUL R4,R8,R9`. -/
theorem test_t200 :
    (stepped (start 0x000100 true [0xDF01, 0x0209] [(4, 0x1234), (5, 0x0056), (8, 0x0000), (9, 0x0000)] [])).map
        (fun t => (t.carry, t.pc)) =
      some (true, 0x561234) := by
  decide

/-! Stops, events and side effects. -/

/-- Vectors T201 to T204, T206, T207 and T209: what the constant of a 16-bit NOP does. -/
theorem test_nop_effects :
    ((stepped (start 0x000100 true [0x0000] [] [])).map (fun t => (t.carry, t.pc, t.run)) =
      some (true, 0x000101, (.halted : RunState))) ∧
    ((stepped (start 0x000100 true [0x0140] [] [])).map (fun t => (t.carry, t.pc, t.run)) =
      some (true, 0x000101, (.halted : RunState))) ∧
    ((stepped (start 0x000100 true [0x0001] [] [])).map (fun t => (t.carry, t.pc)) = some (true, 0x000101)) ∧
    ((stepped (start 0x000100 true [0x0082] [(2, 0x0137)] [])).map (fun t => (t.carry, t.pc, t.run)) =
      some (true, 0x000101, (.exited 0x0137 : RunState))) ∧
    ((stepped (start 0x000100 true [0x00C3] [(3, 0x0148)] [])).map (fun t => (t.carry, t.pc, t.stdout)) =
      some (true, 0x000101, [0x48])) ∧
    ((stepped (start 0x000100 true [0x00C4] [(3, 0x0021)] [])).map (fun t => (t.carry, t.pc, t.stderr)) =
      some (true, 0x000101, [0x21])) ∧
    ((stepped (start 0x000100 true [0x01C5] [] [])).map (fun t => (t.carry, t.pc)) = some (true, 0x000101)) := by
  decide

/-- Vector T77: NOP32_EFFECTS = refuse. -/
theorem test_nop32_refused :
    faultOf (step (start 0x000100 true [0x8000, 0x0000] [] [])) = some (.reservedInstruction .nop32Refused) := by
  decide

/-- Vectors T210, T211 and T212: a register number not below NREGS. -/
theorem test_registers_missing :
    (faultOf (step (configured { Config.standard with nregs := 4 } (start 0x000100 true [0x0101] [] []))) = some
        (.registerOutOfRange 4)) ∧
    (faultOf (step (configured { Config.standard with nregs := 4 } (start 0x000100 true [0x0254] [(2, 0x0001)]
        []))) = some (.registerOutOfRange 4)) ∧
    (faultOf (step (configured { Config.standard with nregs := 16 } (start 0x000100 true [0x9E01, 0x0080] []
        []))) = some (.registerOutOfRange 16)) := by
  decide

/-- Vectors T213 to T223: reserved encodings. -/
theorem test_reserved :
    (faultOf (step (start 0x000100 true [0x6200] [] [])) = some (.reservedInstruction .miscOpcode)) ∧
    (faultOf (step (start 0x000100 true [0x6001] [(0, 0x0234)] [])) = some (.reservedInstruction .unusedSlot)) ∧
    (faultOf (step (start 0x000100 true [0x1251] [(2, 0x0001)] [])) = some (.reservedInstruction .unusedSlot)) ∧
    (faultOf (step (start 0x000100 true [0x50C8] [(3, 0x0400)] [])) = some (.reservedInstruction .unusedSlot)) ∧
    (faultOf (step (start 0x000100 true [0x2600] [(0, 0x0000)] [])) = some (.reservedInstruction
        .loadStoreOpcode)) ∧
    (faultOf (step (start 0x000100 true [0x3E00] [(0, 0x0000)] [])) = some (.reservedInstruction
        .loadStoreOpcode)) ∧
    (faultOf (step (start 0x000100 true [0x8253, 0x8000] [(2, 0x0001), (3, 0x0002)] [])) = some
        (.reservedInstruction .longerThan32Bits)) ∧
    (faultOf (step (start 0x000100 true [0x8253, 0x2000] [(2, 0x0001), (3, 0x0002)] [])) = some
        (.reservedInstruction .highClassBits)) ∧
    (faultOf (step (start 0x000100 true [0x8253, 0x0400] [(2, 0x0001), (3, 0x0002)] [])) = some
        (.reservedInstruction .secondWordGroup)) ∧
    (faultOf (step (start 0x000100 true [0xE000, 0x0000] [] [])) = some (.reservedInstruction .misc32)) ∧
    (faultOf (step (start 0x000100 true [0xD0C0, 0x0400] [(3, 0x0400)] [])) = some (.reservedInstruction
        .secondWordGroup)) := by
  decide

/-- Vectors T187, T188 and T195: an odd register, and a pair beyond NREGS. -/
theorem test_long_jump_pairs :
    (faultOf (step (start 0x000100 true [0xD0C0, 0x0200] [(3, 0x2345), (4, 0x0001)] [])) = some
        (.reservedInstruction .registerPair)) ∧
    (faultOf (step (configured { Config.standard with nregs := 63 } (start 0x000100 true [0xD180, 0x03C0] [(62,
        0x0010)] []))) = some (.reservedInstruction .registerPair)) ∧
    (faultOf (step (start 0x000100 true [0xD541, 0x0209] [(5, 0x0000), (6, 0x0000), (8, 0x0001), (9, 0x0002)]
        [])) = some (.reservedInstruction .registerPair)) := by
  decide

/-- Vectors T95, T96, T106, T119, T126, T153, T191 and T192: the operand overlaps with two readings. -/
theorem test_overlaps :
    (faultOf (step (start 0x000100 true [0x2A92] [(2, 0x0200)] [(0x0202, 0x00), (0x0203, 0x00)])) = some
        (.unspecifiedOverlap)) ∧
    (faultOf (step (start 0x000100 true [0x24D9] [(3, 0x0200)] [(0x01FF, 0x00)])) = some (.unspecifiedOverlap)) ∧
    (faultOf (step (start 0x000100 true [0x3C4A] [(1, 0x0300)] [])) = some (.unspecifiedOverlap)) ∧
    (faultOf (step (start 0x000100 true [0xAC4A, 0x0048] [(9, 0x0100)] [(0x00FE, 0x00), (0x00FF, 0x00)])) = some
        (.unspecifiedOverlap)) ∧
    (faultOf (step (start 0x000100 true [0xBC92, 0x0048] [(10, 0x0100)] [])) = some (.unspecifiedOverlap)) ∧
    (faultOf (step (start 0x000100 true [0x52C3] [(3, 0x0400)] [])) = some (.unspecifiedOverlap)) ∧
    (faultOf (step (start 0x000100 true [0xD283, 0x0200] [(2, 0x2345), (3, 0x0001)] [])) = some
        (.unspecifiedOverlap)) ∧
    (faultOf (step (start 0x000100 true [0xD282, 0x0200] [(2, 0x2345), (3, 0x0001)] [])) = some
        (.unspecifiedOverlap)) := by
  decide

/-- Vectors T107 to T111: nothing of the instruction is done. -/
theorem test_data_bus_errors :
    ((stepped (configured { Config.standard with dmemBytes := 1024 } (start 0x000100 true [0x2850] [(1, 0x5555), (2, 0x0400)] []))).map
        (fun t => (t.carry, t.pc, t.busErrors)) =
      some (true, 0x000002, [.data 0x0400])) ∧
    ((stepped (configured { Config.standard with dmemBytes := 1024 } (start 0x000100 true [0x2850] [(1, 0x5555), (2, 0x03FF)] [(0x03FF, 0x77)]))).map
        (fun t => (t.carry, t.pc, t.busErrors)) =
      some (true, 0x000002, [.data 0x0400])) ∧
    ((stepped (configured { Config.standard with dmemBytes := 1024 } (start 0x000100 true [0x3850] [(1, 0x03FF), (2, 0xABCD)] [(0x03FF, 0x77)]))).map
        (fun t => (t.carry, t.pc, t.busErrors)) =
      some (true, 0x000002, [.data 0x0400])) ∧
    ((stepped (configured { Config.standard with dmemBytes := 1024 } (start 0x000100 true [0x3C52] [(1, 0x0401), (2, 0xABCD)] []))).map
        (fun t => (t.carry, t.pc, t.busErrors)) =
      some (true, 0x000002, [.data 0x0400])) ∧
    ((stepped (configured { Config.standard with dmemBytes := 1024 } (start 0x000100 true [0x2251] [(2, 0x03FF)] []))).map
        (fun t => (t.carry, t.pc, t.busErrors)) =
      some (true, 0x000002, [.data 0x0400])) := by
  decide

/-- Vector T112: a byte that holds no value. -/
theorem test_unwritten :
    faultOf (step (start 0x000100 true [0x2050] [(2, 0x0200)] [])) = some (.unwrittenRead 0x0200) := by
  decide

/-- Vector T224: a branch to the first word that does not exist, the fetch's bus error, the handler. -/
theorem test_t224 :
    let c := { Config.standard with imemWords := 0x200 }
    (stepped (configured c (start 0x0001FE true [0x4002] [] []))).map (fun t => t.pc) = some 0x000200 ∧
    (stepped (configured c (start 0x000200 true [] [] []))).map (fun t => (t.pc, t.busErrors)) =
      some (0x000002, [.fetch 0x000200]) ∧
    (stepped (configured c (start 0x000002 true [0x0000] [] []))).map (fun t => (t.pc, t.run)) =
      some (0x000003, .halted) := by
  decide

/-- Vector T226: the second word of an instruction does not exist. -/
theorem test_t226 :
    (stepped (configured { Config.standard with imemWords := 0x200 } (start 0x0001FF true [0x9E45] [] []))).map
      (fun t => (t.pc, t.busErrors)) = some (0x000002, [.fetch 0x000200]) := by
  decide

/-- Vector T229: the bus-error vector itself does not exist. -/
theorem test_t229 :
    let c := { Config.standard with imemWords := 2 }
    (stepped (configured c (start 0x000100 true [] [] []))).map (fun t => (t.pc, t.busErrors)) =
      some (0x000002, [.fetch 0x000100]) ∧
    (stepped (configured c (start 0x000002 true [] [] []))).map (fun t => (t.pc, t.busErrors)) =
      some (0x000002, [.fetch 0x000002]) := by
  decide

/-- Vectors T230, step 1, and T231: the first instruction after reset. -/
theorem test_first_step :
    (stepped (State.reset.withFetchWord 32 0x0000C100)).map (fun t => t.pc) = some 0x000100 ∧
    (stepped (State.reset.withFetchWord 16 0x0000)).map (fun t => (t.pc, t.run)) = some (0x000001, .halted) := by
  decide

/-- A word that exists and that nothing has placed is not fetched. -/
theorem test_unloaded : faultOf (step State.reset) = some (.unloadedCode 0x000000) := by
  decide

/-! Witnesses: operands and a state that meet the hypotheses of each statement that has hypotheses, every clause, at
boundary values. -/

/-- A result whose next state is `t` is `.next t`. -/
theorem nextOf_some {r : Result} {t : State} (h : nextOf r = some t) : r = .next t := by
  cases r <;> simp_all [nextOf]

/-- The smallest legal register file, three code words, four data bytes: R3 is the last register, 0x000002 the last
code word, 0x0003 the last byte. -/
def tiny (pc : CodeAddr) (ws : List Word) : State :=
  configured { nregs := 4, imemWords := 3, dmemBytes := 4, nop32 := .refuse }
    (start pc true ws [(1, 0x0003), (2, 0x0004)] [(0x0003, 0x80)])

/-- Bytes at both ends of data memory; R1, R7 and R63 address the last of them. -/
def ends : State :=
  start 0x000000 true [] [(1, 0xFFFF), (7, 0xFFFF), (63, 0xFFFF)]
    [(0x0000, 0x7F), (0xFFFF, 0x80), (0xFDFF, 0x01), (0xFE00, 0x02), (0xFFFB, 0x03), (0xFFFC, 0x04), (0x0002, 0x05),
     (0x0003, 0x06), (0x01FE, 0x07), (0x01FF, 0x08)]

theorem witness_EncodeDecode :
    decode [0x0000] = .ok (.nop16 0 0) ∧ decode [0x7FFF] = .error .miscOpcode ∧
    decode [0xDFFF, 0x01FF] = .ok (.jleu32 63 63 63) := by
  decide

theorem witness_InstructionLength :
    decode [0x7040, 0xFFFF] = .error .miscOpcode ∧ decode [0x6040] = .ok (.rte16 1) ∧
    (let s := start 0xFFFFFF true [0x0001] [] []
     s.hasCodeWord s.pc = true ∧ s.codeWord s.pc = some 0x0001 ∧ (0x0001 : Word).getLsbD 15 = false) ∧
    (let s := start 0xFFFFFF true [0x8000, 0x0001] [] []
     s.hasCodeWord s.pc = true ∧ s.codeWord s.pc = some 0x8000 ∧ (0x8000 : Word).getLsbD 15 = true ∧
       s.hasCodeWord (s.pc + 1) = true ∧ s.codeWord (s.pc + 1) = some 0x0001 ∧ s.pc + 1 = 0) := by
  decide

theorem witness_SecondWordTopBit :
    (Instr.nop32 0 0).words = 2 ∧ (Instr.jleul32 62 63 63).words = 2 ∧
    (let s := start 0xFFFFFF true [0x8000, 0x8000] [] []
     s.run = .running ∧ (0x8000 : Word).getLsbD 15 = true ∧ s.hasCodeWord s.pc = true ∧
       s.codeWord s.pc = some 0x8000 ∧ s.hasCodeWord (s.pc + 1) = true ∧ s.codeWord (s.pc + 1) = some 0x8000) := by
  decide

theorem witness_MiscellaneousClass :
    ((0x61C0 : Word).getLsbD 15 = false ∧ (0x61C0 : Word).extractLsb' 13 2 = 3 ∧ decode [0x61C0] = .ok (.rte16 7)) ∧
    (nextOf (exec (.rte16 7) State.reset)).isSome = true ∧ (Instr.rte16 7).isNop = false ∧
    (nextOf (exec (.nop16 0 0) State.reset)).isSome = true := by
  decide

theorem witness_NoMiscellaneous32 :
    let s := start 0x000000 true [0xE000, 0x0000] [] []
    (0xE000 : Word).getLsbD 15 = true ∧ (0xE000 : Word).extractLsb' 13 2 = 3 ∧ (0xFFFF : Word).extractLsb' 13 2 = 3 ∧
      s.run = .running ∧ s.hasCodeWord s.pc = true ∧ s.codeWord s.pc = some 0xE000 ∧
      s.hasCodeWord (s.pc + 1) = true ∧ s.codeWord (s.pc + 1) = some 0x0000 := by
  decide

theorem witness_InvKept :
    (tiny 0 [0x0001]).Inv ∧ (stepped (tiny 0 [0x0001])).isSome = true ∧ (tiny 3 []).Inv ∧
    (stepped (tiny 3 [])).isSome = true ∧ State.reset.Inv := by
  decide

theorem witness_StepRunsDecoded :
    (let s := tiny 2 [0x0001]
     s.run = .running ∧ s.hasCodeWord s.pc = true ∧ s.codeWord s.pc = some 0x0001 ∧
       (0x0001 : Word).getLsbD 15 = false ∧ decode [0x0001] = .ok (.nop16 0 1)) ∧
    (let s := start 0xFFFFFF true [0x8001, 0x0000] [] []
     s.run = .running ∧ s.hasCodeWord s.pc = true ∧ s.codeWord s.pc = some 0x8001 ∧
       (0x8001 : Word).getLsbD 15 = true ∧ s.hasCodeWord (s.pc + 1) = true ∧
       s.codeWord (s.pc + 1) = some 0x0000 ∧ decode [0x8001, 0x0000] = .ok (.nop32 0 1)) := by
  decide

theorem witness_PlacedWordRuns :
    decodeTableWord 16 0x7FFF = none ∧ decodeTableWord 16 0x0000 = some (.nop16 0 0) ∧
    decodeTableWord 32 0x01FFDFFF = some (.jleu32 63 63 63) ∧
    (let s := tiny 1 []
     s.hasCodeWord s.pc = true ∧ s.hasCodeWord (s.pc + 1) = true) := by
  decide

/-- Words numbered as the opcode table numbers them: R121's and R186's Examples, and `MOVI R1,5` (T225) as the first
instruction after reset. -/
theorem test_withFetchWord :
    decodeTableWord 16 0x0253 = some (.add16 1 2 3) ∧ decodeTableWord 32 0x00548254 = some (.add32 9 18 36) ∧
    (stepped (State.reset.withFetchWord 16 0x1E45)).map (fun t => (t.reg 1, t.pc)) = some (0x0005, 0x000001) := by
  decide

theorem witness_StepsWhileRunning :
    (State.reset.setRun .halted).run ≠ .running ∧ (State.reset.setRun (.exited 0)).run ≠ .running ∧
    State.reset.run = .running ∧
    (stepped (tiny 0 [0x0000])).map (fun t => decide (t.run ≠ .running)) = some true := by
  decide

theorem witness_FetchBusError :
    ((tiny 3 []).run = .running ∧ (tiny 3 []).config.imemWords ≤ (tiny 3 []).pc.toNat) ∧
    (let s := tiny 2 [0x8000]
     s.run = .running ∧ s.hasCodeWord s.pc = true ∧ s.codeWord s.pc = some 0x8000 ∧
       (0x8000 : Word).getLsbD 15 = true ∧ s.config.imemWords ≤ (s.pc + 1).toNat) := by
  decide

theorem witness_BusErrorEntry :
    (stepped (tiny 3 [])).map (fun t => decide (t.busErrors ≠ (tiny 3 []).busErrors)) = some true := by
  decide

/-- No word at the vector; and a first word there whose second does not exist. -/
theorem witness_DoubleBusError :
    (let s := configured { Config.standard with imemWords := 2 } (start 0x000002 true [] [] [])
     s.run = .running ∧ s.pc = 0x000002 ∧ s.config.imemWords ≤ 2) ∧
    (let s := tiny 2 [0x8000]
     s.run = .running ∧ s.pc = 0x000002 ∧ s.config.imemWords = 3 ∧ s.codeWord 0x000002 = some 0x8000 ∧
       (0x8000 : Word).getLsbD 15 = true) := by
  decide

/-- Runs of 0, 1 and 2 steps; another code memory with the same words at the pc; the invariant. -/
theorem witness_CodeMemory :
    (nextOf (Host.Core.run Sys2Proof.core 0 State.reset)).isSome = true ∧
    (nextOf (Host.Core.run Sys2Proof.core 2 (tiny 2 [0x0001]))).isSome = true ∧
    (let s := tiny 2 [0x8000]
     let m : Memory Word := [(1, 0x1234), (2, 0x8000)]
     Memory.read m s.pc.toNat = s.codeWord s.pc ∧ Memory.read m (s.pc + 1).toNat = s.codeWord (s.pc + 1) ∧
       m ≠ s.imem) ∧
    (tiny 0 [0x0001, 0x0001, 0x0001]).Inv := by
  decide

theorem witness_DataMemory : (Instr.rte16 7).access = none ∧ (Instr.jleul32 62 63 63).access = none ∧ (tiny 0 []).Inv := by
  decide

theorem witness_CarryFlag :
    (∀ i ∈ [Instr.add16 7 7 7, .sub16 7 7 7, .addi16 7 7 7, .subi16 7 7 7, .asr16 7 7 7, .asri16 7 7 7, .addi16 7 7 0,
      .add32 63 63 63, .sub32 63 63 63, .addi32 63 63 1023, .subi32 63 63 1023, .asr32 63 63 63, .asri32 63 63 63,
      .addi32 63 63 0, .addc32 63 63 63, .subc32 63 63 63, .lsl32 63 63 63], (nextOf (exec i State.reset)).isSome = true) ∧
    (Instr.lsl32 63 63 63).writesCarry = false ∧ (Instr.add32 0 0 0).readsCarry = false := by
  decide

theorem witness_ShortFormsReach :
    (Instr.jleu16 7 7 7).words = 1 ∧ (7 : RegNum) ∈ (Instr.jleu16 7 7 7).named ∧ 8 ≤ (8 : RegNum).toNat ∧
    8 ≤ (63 : RegNum).toNat := by
  decide

theorem witness_MissingRegistersKept :
    (stepped (tiny 0 [0x0001])).isSome = true ∧ (tiny 0 [0x0001]).config.nregs ≤ (4 : RegNum).toNat := by
  decide

/-- R4 is the first register that does not exist; a long jump with a good pair, and the 32-bit NOP with the constants 1
and 5, are covered. -/
theorem witness_RegisterOutOfRange :
    let s := tiny 0 []
    ¬ s.HasNamed (.add16 3 4 0) ∧ (Instr.add16 3 4 0).pair = none ∧
    ¬ s.HasNamed (.jeql32 2 4 0) ∧ (Instr.jeql32 2 4 0).pair = some 2 ∧ s.HasPair 2 ∧
    ¬ s.HasNamed (.nop32 4 5) ∧ ¬ s.HasNamed (.nop32 63 1) ∧ s.config.nop32 = .refuse := by
  decide

/-- An odd register; an even register whose successor does not exist (NREGS = 5 has R4 and no R5). -/
theorem witness_LongJumpPair :
    (Instr.jmpl32 1).pair = some 1 ∧ ¬ (tiny 0 []).HasPair 1 ∧ (Instr.jleul32 4 0 0).pair = some 4 ∧
    ¬ (tiny 0 []).HasPair 4 ∧
    ¬ (configured { Config.standard with nregs := 5 } State.reset).HasPair 4 ∧ (tiny 0 []).HasPair 2 := by
  decide

theorem witness_UnspecifiedOverlaps :
    let s := State.reset
    (∀ i ∈ [Instr.ldbPost16 7 7 0, .ldwPost16 0 0 0, .ldbPre16 7 7 0, .ldwPre16 7 7 0, .stbPre16 7 0 7, .stwPre16 0 0 0,
      .ldbPost32 63 63 0, .ldwPost32 63 63 0, .ldbPre32 63 63 0, .ldwPre32 0 0 0, .stbPre32 63 0 63, .stwPre32 0 0 0],
      (i.access.map DataAccess.overlaps) = some true ∧ s.HasNamed i) ∧
    s.HasNamed (.jal16 7 7) ∧ s.HasNamed (.jal32 63 63) ∧ s.HasPair 62 ∧ s.HasNamed (.jall32 62 62) ∧
    s.HasNamed (.jall32 62 63) ∧ (63 : RegNum).toNat = (62 : RegNum).toNat + 1 := by
  decide

/-- With four bytes: a byte at 0x0004, a word at 0x0003, by a load and by a store; and that the event happens. -/
theorem witness_DataBusError :
    let s := tiny 0 []
    (∀ i ∈ [Instr.ldb16 0 2 0, .stb16 2 0 0, .ldw32 0 2 0, .stwPost32 2 0 2],
      s.HasNamed i ∧ (i.access.map fun x => (x.overlaps, decide (s.config.dmemBytes ≤ (s.accessAddress x).toNat))) =
        some (false, true)) ∧
    (∀ i ∈ [Instr.ldw16 0 1 0, .stw32 1 0 0],
      s.HasNamed i ∧ (i.access.map fun x => (x.overlaps, x.width, decide ((s.accessAddress x).toNat < s.config.dmemBytes),
        decide (s.config.dmemBytes ≤ (s.accessAddress x + 1).toNat))) = some (false, .word, true, true)) ∧
    (nextOf (exec (.ldw16 0 1 0) s)).map (fun t => decide (t.busErrors ≠ s.busErrors)) = some true := by
  decide

/-- Four bytes, of which only the last holds a value; R0 addresses the first, R3 the byte before the last. -/
def erased : State :=
  configured { nregs := 4, imemWords := 3, dmemBytes := 4, nop32 := .refuse }
    (start 0 true [] [(0, 0x0000), (3, 0x0002), (2, 0x0003)] [(0x0003, 0xFF)])

theorem witness_UnwrittenRead :
    (∀ i ∈ [Instr.ldb16 1 0 0, .ldw16 1 0 0, .ldbPost32 1 0 0, .ldwPre32 1 3 0],
      erased.HasNamed i ∧ (i.access.map fun x => (x.store, x.overlaps)) = some (false, false)) ∧
    erased.hasDataByte 0 = true ∧ erased.hasDataByte 1 = true ∧ erased.hasDataByte 3 = true ∧
    erased.dataByte 0 = none ∧ erased.dataByte 2 = none := by
  decide

/-- The second byte of a word only: byte 0 is written first. -/
theorem witness_UnwrittenRead_second :
    (Instr.ldw16 1 0 0).access.map (fun x => (x.store, x.overlaps, x.width)) = some (false, false, .word) ∧
    erased.HasNamed (.ldw16 1 0 0) ∧ (erased.setDataByte 0 0x01).Holds 0 0x01 ∧
    (erased.setDataByte 0 0x01).hasDataByte 1 = true ∧ (erased.setDataByte 0 0x01).dataByte 1 = none := by
  decide

theorem witness_OutputsGrow :
    (stepped (start 0 true [0x0043] [(1, 0x0141)] [])).map (fun t => (t.stdout, t.stderr)) = some ([0x41], []) := by
  decide

theorem witness_MemRead :
    let s := tiny 0 []
    s.config.dmemBytes ≤ (4 : DataAddr).toNat ∧
    ((3 : DataAddr).toNat < s.config.dmemBytes ∧ s.config.dmemBytes ≤ ((3 : DataAddr).toNat + 1) % 2 ^ 16) ∧
    s.Holds 3 0x80 ∧ ends.Holds 0xFFFF 0x80 ∧ ends.Holds (BitVec.ofNat 16 ((0xFFFF : DataAddr).toNat + 1)) 0x7F := by
  decide

theorem witness_MemWrite :
    let s := tiny 0 []
    s.config.dmemBytes ≤ (4 : DataAddr).toNat ∧
    ((3 : DataAddr).toNat < s.config.dmemBytes ∧ s.config.dmemBytes ≤ ((3 : DataAddr) + 1).toNat) ∧
    s.hasDataByte 3 = true ∧ ends.hasDataByte 0xFFFF = true ∧ ends.hasDataByte (0xFFFF + 1) = true := by
  decide

theorem witness_LittleEndian : ∃ t, ends.memWrite .word 0xFFFF 0x1234 = .done t := ⟨_, rfl⟩

theorem witness_AddSub : ∀ i ∈ [Instr.add16 7 7 7, .sub16 0 7 0, .add32 63 63 63, .sub32 0 63 0],
    State.reset.HasNamed i := by
  decide

theorem witness_AddcSubc : ∀ i ∈ [Instr.addc32 63 63 63, .subc32 0 63 0], State.reset.HasNamed i := by
  decide

theorem witness_AddiSubi :
    ∀ i ∈ [Instr.addi16 7 7 7, .addi16 0 0 0, .subi16 7 0 7, .addi32 63 63 1023, .addi32 0 0 0, .subi32 63 0 1023],
      State.reset.HasNamed i := by
  decide

theorem witness_LogicResults :
    ∀ i ∈ [Instr.and16 7 7 7, .or16 0 7 0, .xor16 7 7 7, .and32 63 63 63, .or32 0 63 0, .xor32 63 63 63,
      .andi32 63 63 511, .ori32 0 0 0, .xori32 63 0 511], State.reset.HasNamed i := by
  decide

theorem witness_RegisterShifts :
    ∀ i ∈ [Instr.asr16 7 7 7, .lsl16 0 7 0, .lsr16 7 7 7, .asr32 63 63 63, .lsl32 0 63 0, .lsr32 63 63 63],
      State.reset.HasNamed i := by
  decide

theorem witness_ShiftConstants :
    ∀ i ∈ [Instr.asri16 7 7 7, .lsli16 0 0 0, .lsri16 7 0 7, .asri32 63 63 63, .lsli32 0 0 0, .lsri32 63 0 63],
      State.reset.HasNamed i := by
  decide

theorem witness_MoveResults :
    ∀ i ∈ [Instr.mov16 7 7, .movi16 0 63, .mov32 63 63, .movi32 0 65535], State.reset.HasNamed i := by
  decide

theorem witness_Nop16 :
    (∀ i ∈ [Instr.nop16 7 0, .nop16 7 2, .nop16 7 3, .nop16 7 4, .nop16 7 5, .nop16 0 63], State.reset.HasNamed i) ∧
    5 ≤ (5 : BitVec 6).toNat ∧ 5 ≤ (63 : BitVec 6).toNat := by
  decide

theorem witness_NopOne : State.reset.HasNamed (.nop16 0 1) ∧ State.reset.HasNamed (.nop16 7 1) := by
  decide

theorem witness_Nop32 :
    let s := configured { Config.standard with nop32 := .as16 } State.reset
    let u := configured { Config.standard with nop32 := .none } State.reset
    (∀ i ∈ [Instr.nop32 63 1, .nop32 63 5, .nop32 0 4095, .nop32 63 0, .nop32 63 2, .nop32 63 3, .nop32 63 4],
      s.HasNamed i ∧ u.HasNamed i) ∧
    5 ≤ (5 : BitVec 12).toNat ∧ 5 ≤ (4095 : BitVec 12).toNat ∧ u.config.nop32 = .none ∧
    s.config.nop32 = .as16 ∧ State.reset.config.nop32 = .refuse ∧ (0 : BitVec 12).toNat ≠ 1 ∧
    (4 : BitVec 12).toNat ≠ 1 ∧ (4 : BitVec 12).toNat < 5 := by
  decide

/-- Indexed and postincrement: base 0xFFFF with the offsets 0 and the least and greatest of each width. -/
theorem witness_LoadIndexed :
    let x (s : DataAddr) := AddrMode.indexed.address (ends.reg 1) s
    (∀ i ∈ [Instr.ldb16 0 1 (-4), .ldb16 1 1 3, .ldw16 0 1 0, .ldb32 0 1 (-512), .ldb32 0 1 511, .ldw32 1 1 0],
      ends.HasNamed i) ∧
    ends.Holds (x (sext16 (-4 : BitVec 3))) 0x03 ∧ ends.Holds (x (sext16 (3 : BitVec 3))) 0x05 ∧
    ends.Holds (x 0) 0x80 ∧ ends.Holds (x 0 + 1) 0x7F ∧
    ends.Holds (x (sext16 (-512 : BitVec 10))) 0x01 ∧ ends.Holds (x (sext16 (511 : BitVec 10))) 0x07 := by
  decide

theorem witness_LoadPostincrement :
    let x (s : DataAddr) := AddrMode.postincrement.address (ends.reg 1) s
    (∀ i ∈ [Instr.ldbPost16 0 1 (-4), .ldwPost16 0 1 3, .ldwPost16 0 1 0, .ldbPost32 0 1 (-512), .ldwPost32 0 1 511,
      .ldwPost32 63 1 0], ends.HasNamed i) ∧
    regOf 0 ≠ regOf 1 ∧ (0 : RegNum) ≠ 1 ∧ (63 : RegNum) ≠ 1 ∧
    ends.Holds (x (sext16 (-4 : BitVec 3))) 0x03 ∧ ends.Holds (x (sext16 (3 : BitVec 3))) 0x05 ∧
    ends.Holds (x (sext16 (3 : BitVec 3)) + 1) 0x06 ∧ ends.Holds (x 0) 0x80 ∧ ends.Holds (x 0 + 1) 0x7F ∧
    ends.Holds (x (sext16 (-512 : BitVec 10))) 0x01 ∧ ends.Holds (x (sext16 (511 : BitVec 10))) 0x07 ∧
    ends.Holds (x (sext16 (511 : BitVec 10)) + 1) 0x08 := by
  decide

/-- Predecrement: base 0xFFFF less the offsets 0, -4 and -512, and base 0xFFFF less 3 and 511. -/
theorem witness_LoadPredecrement :
    let x (s : DataAddr) := AddrMode.predecrement.address (ends.reg 1) s
    (∀ i ∈ [Instr.ldbPre16 0 1 3, .ldwPre16 0 1 (-4), .ldwPre16 0 1 0, .ldbPre32 0 1 511, .ldwPre32 0 1 (-512),
      .ldwPre32 63 1 0], ends.HasNamed i) ∧
    regOf 0 ≠ regOf 1 ∧ (0 : RegNum) ≠ 1 ∧ (63 : RegNum) ≠ 1 ∧
    ends.Holds (x (sext16 (3 : BitVec 3))) 0x04 ∧ ends.Holds (x (sext16 (-4 : BitVec 3))) 0x06 ∧
    ends.Holds (x 0) 0x80 ∧ ends.Holds (x 0 + 1) 0x7F ∧ ends.Holds (x (sext16 (511 : BitVec 10))) 0x02 ∧
    ends.Holds (x (sext16 (-512 : BitVec 10))) 0x08 := by
  decide

/-- The word that begins at the last byte, for each store mode; d = a where the mode admits it. -/
theorem witness_StoreIndexed :
    (∀ i ∈ [Instr.stb16 1 0 1, .stw16 7 0 0, .stb32 63 0 63, .stw32 63 0 0], ends.HasNamed i) ∧
    ends.hasDataByte (AddrMode.indexed.address (ends.reg 1) 0) = true ∧
    ends.hasDataByte (AddrMode.indexed.address (ends.reg 63) 0 + 1) = true ∧
    (tiny 0 []).hasDataByte (AddrMode.indexed.address ((tiny 0 []).reg 1) 0) = true := by
  decide

theorem witness_StorePostincrement :
    (∀ i ∈ [Instr.stbPost16 1 0 1, .stwPost16 7 0 0, .stbPost32 63 0 63, .stwPost32 63 0 0], ends.HasNamed i) ∧
    ends.hasDataByte (AddrMode.postincrement.address (ends.reg 1) 0) = true ∧
    ends.hasDataByte (AddrMode.postincrement.address (ends.reg 63) 0 + 1) = true ∧
    (tiny 0 []).hasDataByte (AddrMode.postincrement.address ((tiny 0 []).reg 1) 0) = true := by
  decide

theorem witness_StorePredecrement :
    (∀ i ∈ [Instr.stbPre16 1 0 0, .stwPre16 7 0 0, .stbPre32 63 0 0, .stwPre32 63 0 0], ends.HasNamed i) ∧
    regOf 1 ≠ regOf 0 ∧ regOf 7 ≠ regOf 0 ∧ (63 : RegNum) ≠ 0 ∧
    ends.hasDataByte (AddrMode.predecrement.address (ends.reg 1) 0) = true ∧
    ends.hasDataByte (AddrMode.predecrement.address (ends.reg 63) 0 + 1) = true ∧
    (tiny 0 []).hasDataByte (AddrMode.predecrement.address ((tiny 0 []).reg 1) 0) = true := by
  decide

theorem witness_BraBal : ∀ i ∈ [Instr.bal16 (-32) 7, .bal32 (-32768) 63], State.reset.HasNamed i := by
  decide

theorem witness_ConditionalBranches :
    ∀ i ∈ [Instr.beq16 3 7 7, .bne16 (-4) 7 0, .blts16 3 7 0, .bles16 3 7 7, .bltu16 3 7 0, .bleu16 3 7 7,
      .beq32 511 63 63, .bne32 (-512) 63 0, .blts32 511 63 0, .bles32 511 63 63, .bltu32 511 63 0, .bleu32 511 63 63],
      State.reset.HasNamed i := by
  decide

theorem witness_JmpRte : ∀ i ∈ [Instr.jmp16 7, .jmp32 63, .rte16 7], State.reset.HasNamed i := by
  decide

theorem witness_JumpAndLink :
    State.reset.HasNamed (.jal16 7 0) ∧ regOf 7 ≠ regOf 0 ∧ State.reset.HasNamed (.jal32 63 0) ∧ (63 : RegNum) ≠ 0 := by
  decide

theorem witness_ConditionalJumps :
    ∀ i ∈ [Instr.jeq16 7 7 7, .jne16 7 7 0, .jlts16 7 7 0, .jles16 7 7 7, .jltu16 7 7 0, .jleu16 7 7 7, .jeq32 63 63 63,
      .jne32 63 63 0, .jlts32 63 63 0, .jles32 63 63 63, .jltu32 63 63 0, .jleu32 63 63 63],
      State.reset.HasNamed i := by
  decide

theorem witness_LongJumps :
    State.reset.HasPair 62 ∧ (tiny 0 []).HasPair 2 ∧ State.reset.HasNamed (.jall32 62 0) ∧ (0 : RegNum) ≠ 62 ∧
    (0 : RegNum) ≠ 62 + 1 := by
  decide

theorem witness_ConditionalLongJumps :
    State.reset.HasPair 62 ∧
    ∀ i ∈ [Instr.jeql32 62 62 63, .jnel32 62 63 0, .jltsl32 62 63 0, .jlesl32 62 63 63, .jltul32 62 63 0,
      .jleul32 62 63 63], State.reset.HasNamed i := by
  decide

/-- Words of each of the items (a) to (c) of R96, and words close to them that are not in the list. -/
theorem witness_ReservedEncodings_short :
    ([0x2600, 0x3FFF, 0x6200, 0x7FFF, 0x1201, 0x5008, 0x5001, 0x5208, 0x6008, 0x6001].all fun w =>
      reserved16 w && !w.getLsbD 15) = true ∧
    ([0x2400, 0x3DFF, 0x61C0, 0x13F8, 0x51C0, 0x53C7].all fun w => !reserved16 w && !w.getLsbD 15) = true := by
  decide

/-- Pairs of each of the items (d) to (i) of R96, and pairs close to them that are not in the list. -/
theorem witness_ReservedEncodings_long :
    ([(0x8000, 0x8000), (0x8000, 0x2000), (0x8000, 0x0200), (0x8200, 0x0400), (0x8600, 0x0400), (0x8C00, 0x0200),
      (0x9200, 0x0001), (0x9201, 0x0000), (0x9C00, 0x0200), (0xA600, 0x0000), (0xBE00, 0x0000), (0xD000, 0x0400),
      (0xDE00, 0x0400), (0xD001, 0x0000), (0xD000, 0x0008), (0xD200, 0x0208), (0xE000, 0x0000),
      (0xFFFF, 0x7FFF)].all fun p => reserved32 p.1 p.2 && p.1.getLsbD 15) = true ∧
    ([(0x8000, 0x0000), (0x8200, 0x0200), (0x8600, 0x1E00), (0x9E00, 0x1E00), (0xA000, 0x1E00), (0xD000, 0x0200),
      (0xD207, 0x0207), (0xC000, 0x1FFF)].all fun p => !reserved32 p.1 p.2 && p.1.getLsbD 15) = true := by
  decide

/-- Fetches of a reserved word, of a reserved pair, and of JMPL R1, R1 being odd. -/
theorem witness_ReservedEncodings :
    (let s := tiny 2 [0x7FFF]
     s.run = .running ∧ s.hasCodeWord s.pc = true ∧ s.codeWord s.pc = some 0x7FFF ∧ s.fetch = .got [0x7FFF] ∧
       decode [0x7FFF] = .error .miscOpcode) ∧
    (let s := tiny 1 [0xE000, 0x0000]
     s.run = .running ∧ s.hasCodeWord s.pc = true ∧ s.codeWord s.pc = some 0xE000 ∧
       s.hasCodeWord (s.pc + 1) = true ∧ s.codeWord (s.pc + 1) = some 0x0000) ∧
    (let s := tiny 1 [0xD040, 0x0200]
     s.run = .running ∧ s.fetch = .got [0xD040, 0x0200] ∧ decode [0xD040, 0x0200] = .ok (.jmpl32 1) ∧
       (Instr.jmpl32 1).pair = some 1 ∧ ¬ s.HasPair 1) ∧
    ((Instr.jmpl32 2).pair = some 2 ∧ (tiny 0 []).HasPair 2) := by
  decide

end Sys2Proof.Tests
end

section
/-!
PROOFS. The parts of the state (10_state.md): code memory is reached by the fetch alone (R32), data memory by the loads
and stores alone (R33), and the carry flag by the instructions that R29 lists.
-/

namespace Sys2Proof.Machine

/-! Runs and steps. -/

/-- A quantity that every step keeps is kept by a run of any length. -/
theorem run_keeps {M : Host.Core} {α : Type} (g : M.State → α) (hg : ∀ s t, M.step s = .next t → g t = g s)
    (k : Nat) (s t : M.State) (h : M.run k s = .next t) : g t = g s := by
  induction k generalizing s with
  | zero => cases h; rfl
  | succ k ih =>
    rw [Host.Core.run] at h
    split at h
    next u hu => exact (ih u h).trans (hg s u hu)
    next => cases h
    next => cases h

/-- A change that leaves the run state and the fetch alone and commutes with every execution commutes with the step. -/
theorem Unseen.step {P : RegNum → Prop} {f : State → State} (hf : Unseen P f) {s : State}
    (hr : (f s).run = s.run) (hw : (f s).fetch = s.fetch)
    (he : ∀ i, Machine.exec i (f s) = mapNext f (Machine.exec i s)) :
    Machine.step (f s) = mapNext f (Machine.step s) := by
  simp only [Machine.step, hr, hw]
  cases s.run with
  | halted => rfl
  | exited _ => rfl
  | running =>
    cases s.fetch with
    | busError a => simp only [mapNext, hf.takeBusError]
    | unloaded _ => rfl
    | got ws =>
      dsimp only
      cases decode ws with
      | error _ => rfl
      | ok i => exact he i

/-! Code memory (R32). -/

@[simp] theorem State.withCode_codeWord (s : State) (m : Memory Word) (a : CodeAddr) :
    (s.withCode m).codeWord a = Memory.read m a.toNat := rfl

theorem unseen_withCode (m : Memory Word) : Unseen (fun _ => True) (fun t => t.withCode m) := by
  constructor <;> intros <;> rfl

theorem exec_withCode (i : Instr) (s : State) (m : Memory Word) :
    exec i (s.withCode m) = mapNext (fun t => t.withCode m) (exec i s) :=
  (unseen_withCode m).exec (fun _ _ => trivial) (fun _ _ => trivial)
    (fun _ => ⟨fun _ => rfl, fun _ _ _ => rfl⟩) (fun _ => ⟨fun _ => rfl, fun _ _ => rfl⟩)

theorem State.ifetch_withCode {s : State} {m : Memory Word} {a : CodeAddr}
    (h : Memory.read m a.toNat = s.codeWord a) : (s.withCode m).ifetch a = s.ifetch a := by
  simp only [State.ifetch, State.withCode_hasCodeWord, State.withCode_codeWord, h]

/-- The fetch reads code memory at the pc and at the next address only. -/
theorem State.fetch_withCode {s : State} {m : Memory Word} (h0 : Memory.read m s.pc.toNat = s.codeWord s.pc)
    (h1 : Memory.read m (s.pc + 1).toNat = s.codeWord (s.pc + 1)) : (s.withCode m).fetch = s.fetch := by
  have second : (s.withCode m).ifetch (s.nextPc 1) = s.ifetch (s.nextPc 1) := State.ifetch_withCode h1
  simp only [State.fetch, State.withCode_pc, State.withCode_nextPc, State.ifetch_withCode h0, second]

theorem step_withCode {s : State} {m : Memory Word} (h0 : Memory.read m s.pc.toNat = s.codeWord s.pc)
    (h1 : Memory.read m (s.pc + 1).toNat = s.codeWord (s.pc + 1)) :
    step (s.withCode m) = mapNext (fun t => t.withCode m) (step s) :=
  (unseen_withCode m).step rfl (State.fetch_withCode h0 h1) (fun i => exec_withCode i s m)

/-- The step commutes with replacing code memory by the very memory it has, so the next state has it still. -/
theorem step_imem {s t : State} (h : step s = .next t) : t.imem = s.imem := by
  have same : step s = mapNext (fun u => u.withCode s.imem) (step s) :=
    step_withCode (s := s) (m := s.imem) rfl rfl
  rw [h] at same
  have ht : t = t.withCode s.imem := Host.Outcome.next.inj same
  rw [ht, State.withCode_imem]

/-- Settles O17: code memory is unseen by every execution, and a step keeps it. -/
theorem codeMemory : Obligations.CodeMemory := by
  refine ⟨exec_withCode, run_keeps (M := Sys2Proof.core) State.imem fun _ _ => step_imem,
    fun _ _ => step_withCode, ?inv, ?bound⟩
  case inv =>
    rintro s ⟨⟨-, ⟨-, hsize⟩, -⟩, ⟨-, hcells⟩, -⟩
    exact ⟨hsize, hcells⟩
  case bound => exact fun s a => decide_eq_true_iff

/-! Data memory (R33). -/

theorem unseen_withData (m : Memory Byte) : Unseen (fun _ => True) (fun t => t.withData m) := by
  constructor <;> intros <;> rfl

theorem exec_withData {i : Instr} (s : State) (m : Memory Byte) (hi : i.access = none) :
    exec i (s.withData m) = mapNext (fun t => t.withData m) (exec i s) :=
  (unseen_withData m).exec (fun _ _ => trivial) (fun _ _ => trivial)
    (fun h => absurd hi h) (fun _ => ⟨fun _ => rfl, fun _ _ => rfl⟩)

theorem State.ifetch_withData (s : State) (m : Memory Byte) (a : CodeAddr) :
    (s.withData m).ifetch a = s.ifetch a := rfl

theorem State.fetch_withData (s : State) (m : Memory Byte) : (s.withData m).fetch = s.fetch := by
  simp only [State.fetch, State.withData_pc, State.withData_nextPc, State.ifetch_withData]

/-- Settles O18: data memory is unseen by every execution without a data access, and by the fetch. -/
theorem dataMemory : Obligations.DataMemory := by
  refine ⟨fun _ => exec_withData, State.fetch_withData, ?inv, ?bound⟩
  case inv =>
    rintro s ⟨⟨-, -, -, hsize⟩, -, -, hcells⟩
    exact ⟨hsize, hcells⟩
  case bound => exact fun s a => decide_eq_true_iff

/-! The carry flag (R29): who writes it and who reads it. -/

@[simp] theorem nopEffect_carry (k : Nat) (d : RegNum) (s : State) : (nopEffect k d s).carry = s.carry := by
  unfold nopEffect
  split <;> rfl

/-- An instruction outside the list of writers leaves carry as it was. -/
theorem exec_carry_kept {i : Instr} {s t : State} (h : exec i s = .next t) (hi : i.writesCarry = false) :
    t.carry = s.carry := by
  cases exec_next h with
  | busError => rfl
  | nop k d => simp only [nopEffect_carry, State.advance_carry]
  | writes regs bytes c pc _ _ _ _ hc =>
    rcases hc with rfl | hw
    · rfl
    · exact absurd (hw.symm.trans hi) Bool.noConfusion

theorem unseen_setCarry (c : Bool) : Unseen (fun _ => True) (fun t => t.setCarry c) := by
  constructor <;> intros <;> rfl

/-- An instruction that does not write carry does not read it either. -/
theorem exec_setCarry {i : Instr} (s : State) (c : Bool) (hi : i.writesCarry = false) :
    exec i (s.setCarry c) = mapNext (fun t => t.setCarry c) (exec i s) :=
  (unseen_setCarry c).exec (fun _ _ => trivial) (fun _ _ => trivial)
    (fun _ => ⟨fun _ => rfl, fun _ _ _ => rfl⟩) (fun h => absurd (h.symm.trans hi) Bool.noConfusion)

theorem mapNext_id (r : Result) : mapNext (fun t => t) r = r := by
  cases r <;> rfl

/-- The writers that overwrite carry without reading it: ADD, SUB, ADDI and SUBI of either length. -/
theorem exec_setCarry_of_overwrites {i : Instr} (s : State) (c : Bool) (hw : i.writesCarry = true)
    (hr : i.readsCarry = false) : exec i (s.setCarry c) = exec i s := by
  cases i with
  | add16 | add32 | addi16 | addi32 | sub16 | sub32 | subi16 | subi32 => rfl
  | asr16 | asr32 | asri16 | asri32 | addc32 | subc32 => cases hr
  | _ => cases hw

theorem exec_setCarry_of_not_reads (i : Instr) (s : State) (c : Bool) (hr : i.readsCarry = false) :
    exec i (s.setCarry c) = mapNext (fun t => if i.writesCarry then t else t.setCarry c) (exec i s) := by
  cases hw : i.writesCarry with
  | false => exact exec_setCarry s c hw
  | true => exact (exec_setCarry_of_overwrites s c hw hr).trans (mapNext_id _).symm

/-! The carry computations as integer arithmetic. -/

theorem zext16_toNat {n : Nat} (hn : n ≤ 16) (imm : BitVec n) : (zext16 imm).toNat = imm.toNat :=
  BitVec.toNat_setWidth_of_le hn

theorem addCarry_eq (x y : Word) (c : Bool) :
    addCarry x y c = decide ((65536 : Int) ≤ x.toNat + y.toNat + (if c then 1 else 0)) := by
  rw [addCarry, exactSum, decide_eq_decide]
  cases c <;> simp only [Bool.toNat, cond, if_true, Bool.false_eq_true, if_false] <;> omega

theorem subCarry_eq (x y : Word) (c : Bool) :
    subCarry x y c = decide ((x.toNat : Int) < y.toNat + (if c then 1 else 0)) := by
  rw [subCarry, decide_eq_decide]
  cases c <;> simp only [Bool.toNat, cond, if_true, Bool.false_eq_true, if_false] <;> omega

/-- The 17-bit value carry::x shifted right, as a division (R126). -/
theorem asrResult_eq (x : Word) (n : Nat) (c : Bool) :
    asrResult x n c = BitVec.ofInt 16 ((x.toNat + (if c then 65536 else 0)) / 2 ^ n) := by
  rw [asrResult, Nat.shiftRight_eq_div_pow, ← BitVec.ofInt_natCast]
  cases c <;> simp

/-! What the instructions of R29's list do to carry, in their shapes. -/

section
variable {s t : State} {len : Nat} {d a b : RegNum}

theorem aluRRCarry_writes {f : Word → Word → Bool → Word} {g : Word → Word → Bool → Bool}
    (h : aluRRCarry len f g d a b s = .next t) :
    t.carry = g (s.reg a) (s.reg b) s.carry ∧ t.reg d = f (s.reg a) (s.reg b) s.carry := by
  obtain ⟨-, h⟩ := checkRegs_next h
  cases h
  exact ⟨rfl, (s.reg_setReg d d _).trans (if_pos rfl)⟩

theorem aluRCarry_writes {f : Word → Bool → Word} {g : Word → Bool → Bool}
    (h : aluRCarry len f g d a s = .next t) :
    t.carry = g (s.reg a) s.carry ∧ t.reg d = f (s.reg a) s.carry := by
  obtain ⟨-, h⟩ := checkRegs_next h
  cases h
  exact ⟨rfl, (s.reg_setReg d d _).trans (if_pos rfl)⟩

theorem add_carry (h : aluRRCarry len (fun x y _ => addResult x y false) (fun x y _ => addCarry x y false) d a b s
    = .next t) : t.carry = decide (65536 ≤ s.int a + s.int b) := by
  simpa [addCarry_eq] using (aluRRCarry_writes h).1

theorem sub_carry (h : aluRRCarry len (fun x y _ => subResult x y false) (fun x y _ => subCarry x y false) d a b s
    = .next t) : t.carry = decide (s.int a < s.int b) := by
  simpa [subCarry_eq] using (aluRRCarry_writes h).1

theorem addi_carry {n : Nat} {imm : BitVec n} (hn : n ≤ 16)
    (h : aluRCarry len (fun x _ => addResult x (zext16 imm) false) (fun x _ => addCarry x (zext16 imm) false) d a s
      = .next t) : t.carry = decide (65536 ≤ s.int a + imm.toNat) := by
  simpa [addCarry_eq, zext16_toNat hn] using (aluRCarry_writes h).1

theorem subi_carry {n : Nat} {imm : BitVec n} (hn : n ≤ 16)
    (h : aluRCarry len (fun x _ => subResult x (zext16 imm) false) (fun x _ => subCarry x (zext16 imm) false) d a s
      = .next t) : t.carry = decide (s.int a < imm.toNat) := by
  simpa [subCarry_eq, zext16_toNat hn] using (aluRCarry_writes h).1

/-- Adding the constant zero clears carry: a register is below 2^16. -/
theorem addi_zero_carry {n : Nat} (hn : n ≤ 16)
    (h : aluRCarry len (fun x _ => addResult x (zext16 (0 : BitVec n)) false)
      (fun x _ => addCarry x (zext16 (0 : BitVec n)) false) d a s = .next t) : t.carry = false := by
  have small : (s.reg a).toNat < 65536 := (s.reg a).isLt
  rw [addi_carry hn h, decide_eq_false_iff_not]
  simp only [State.int, BitVec.ofNat_eq_ofNat, BitVec.toNat_ofNat, Nat.zero_mod]
  omega

theorem asr_carry_result
    (h : aluRRCarry len (fun x y c => asrResult x y.toNat c) (fun _ _ _ => asrCarry) d a b s = .next t) :
    t.carry = false ∧
      t.reg d = BitVec.ofInt 16 ((s.int a + (if s.carry then 65536 else 0)) / 2 ^ (s.reg b).toNat) := by
  obtain ⟨hc, hr⟩ := aluRRCarry_writes h
  exact ⟨hc, hr.trans (asrResult_eq _ _ _)⟩

theorem asri_carry_result {n : Nat} {imm : BitVec n}
    (h : aluRCarry len (fun x c => asrResult x (shiftAmount imm) c) (fun _ _ => asrCarry) d a s = .next t) :
    t.carry = false ∧
      t.reg d = BitVec.ofInt 16 ((s.int a + (if s.carry then 65536 else 0)) / 2 ^ (imm.toNat + 1)) := by
  obtain ⟨hc, hr⟩ := aluRCarry_writes h
  exact ⟨hc, hr.trans (asrResult_eq _ _ _)⟩

theorem addc_carry (h : aluRRCarry len addResult addCarry d a b s = .next t) :
    t.carry = decide (65536 ≤ s.int a + s.int b + (if s.carry then 1 else 0)) :=
  (aluRRCarry_writes h).1.trans (addCarry_eq _ _ _)

theorem subc_carry (h : aluRRCarry len subResult subCarry d a b s = .next t) :
    t.carry = decide (s.int a < s.int b + (if s.carry then 1 else 0)) :=
  (aluRRCarry_writes h).1.trans (subCarry_eq _ _ _)

end

/-- Settles O19: who writes carry, who reads it, then the listed instructions, the 16-bit forms before the 32-bit
ones, each as its shape. -/
theorem carryFlag : Obligations.CarryFlag :=
  ⟨fun _ _ _ => exec_carry_kept, exec_setCarry_of_not_reads,
    fun _ _ _ _ _ h => add_carry h, fun _ _ _ _ _ h => sub_carry h,
    fun _ _ _ _ _ h => addi_carry (by decide) h, fun _ _ _ _ _ h => subi_carry (by decide) h,
    fun _ _ _ _ _ h => asr_carry_result h, fun _ _ _ _ _ h => asri_carry_result h,
    fun _ _ _ _ h => addi_zero_carry (by decide) h,
    fun _ _ _ _ _ h => add_carry h, fun _ _ _ _ _ h => sub_carry h,
    fun _ _ _ _ _ h => addi_carry (by decide) h, fun _ _ _ _ _ h => subi_carry (by decide) h,
    fun _ _ _ _ _ h => asr_carry_result h, fun _ _ _ _ _ h => asri_carry_result h,
    fun _ _ _ _ h => addi_zero_carry (by decide) h,
    fun _ _ _ _ _ h => addc_carry h, fun _ _ _ _ _ h => subc_carry h⟩

end Sys2Proof.Machine
end

section
/-!
PROOFS. Data memory (20_memory.md): what a read returns (R52), and that a word written is read back as a word and as its
two bytes, the low byte first (R50).
-/

namespace Sys2Proof.Machine

/-! Addresses and the bytes of a word. -/

/-- The address of the second byte, as R52 writes it and as the model computes it. -/
theorem dataAddr_ofNat_succ (ea : DataAddr) : BitVec.ofNat 16 (ea.toNat + 1) = ea + 1 := by
  rw [BitVec.ofNat_add, BitVec.ofNat_toNat, BitVec.setWidth_eq]
  rfl

theorem toNat_bytePair (hi lo : Byte) : (hi ++ lo : Word).toNat = lo.toNat + 256 * hi.toNat := by
  rw [BitVec.toNat_append, ← Nat.shiftLeft_add_eq_or_of_lt lo.isLt, Nat.shiftLeft_eq]
  omega

theorem toNat_lowByte (v : Word) : (v.extractLsb' 0 8).toNat = v.toNat % 256 := by
  rw [BitVec.extractLsb'_toNat, Nat.shiftRight_zero]

theorem toNat_highByte (v : Word) : (v.extractLsb' 8 8).toNat = v.toNat / 256 := by
  rw [BitVec.extractLsb'_toNat, Nat.shiftRight_eq_div_pow]
  exact Nat.mod_eq_of_lt (by have := v.isLt; omega)

theorem highByte_append_lowByte (v : Word) : (v.extractLsb' 8 8 ++ v.extractLsb' 0 8 : Word) = v := by
  apply BitVec.eq_of_toNat_eq
  rw [toNat_bytePair, toNat_lowByte, toNat_highByte, Nat.mod_add_div]

/-! Which byte is missing. -/

theorem State.hasDataByte_false {s : State} {a : DataAddr} :
    s.hasDataByte a = false ↔ s.config.dmemBytes ≤ a.toNat := by
  rw [State.hasDataByte, decide_eq_false_iff_not, not_lt]

theorem State.hasDataByte_true {s : State} {a : DataAddr} :
    s.hasDataByte a = true ↔ a.toNat < s.config.dmemBytes := decide_eq_true_iff

theorem State.firstMissing_first {s : State} {ea : DataAddr} (w : Width) (h : s.hasDataByte ea = false) :
    s.firstMissing w ea = some ea := by
  cases w <;> simp [State.firstMissing, Width.touched, h]

theorem State.firstMissing_second {s : State} {ea : DataAddr} (h0 : s.hasDataByte ea = true)
    (h1 : s.hasDataByte (ea + 1) = false) : s.firstMissing .word ea = some (ea + 1) := by
  simp only [State.firstMissing, Width.touched, List.find?_cons, h0, h1, Bool.not_true, Bool.not_false]

theorem State.firstMissing_byte {s : State} {ea : DataAddr} :
    s.firstMissing .byte ea = none ↔ s.hasDataByte ea = true := by
  simp [State.firstMissing_none, Width.touched]

theorem State.firstMissing_word {s : State} {ea : DataAddr} :
    s.firstMissing .word ea = none ↔ s.hasDataByte ea = true ∧ s.hasDataByte (ea + 1) = true := by
  simp [State.firstMissing_none, Width.touched]

/-! Reads (R52). -/

theorem State.memRead_missing {s : State} {w : Width} {ea a : DataAddr} (h : s.firstMissing w ea = some a) :
    s.memRead w ea = .busError a := by
  simp only [State.memRead, h]

theorem State.memRead_byte {s : State} {ea : DataAddr} {b : Byte} (h : s.Holds ea b) :
    s.memRead .byte ea = .done (b.setWidth 16) := by
  obtain ⟨present, value⟩ := h
  simp only [State.memRead, State.firstMissing_byte.2 present, value]

theorem State.memRead_word {s : State} {ea : DataAddr} {lo hi : Byte} (h0 : s.Holds ea lo) (h1 : s.Holds (ea + 1) hi) :
    s.memRead .word ea = .done (hi ++ lo) := by
  obtain ⟨present0, value0⟩ := h0
  obtain ⟨present1, value1⟩ := h1
  simp only [State.memRead, State.firstMissing_word.2 ⟨present0, present1⟩, value0, value1]

/-- A byte is read as the word of its value (R57). -/
theorem State.memRead_byte_ofNat {s : State} {ea : DataAddr} {b : Byte} {n : Nat} (h : s.Holds ea b)
    (hn : b.toNat = n) : s.memRead .byte ea = .done (BitVec.ofNat 16 n) := by
  rw [State.memRead_byte h, ← hn, BitVec.ofNat_toNat]

/-- Settles O28. -/
theorem memRead : Obligations.MemRead := by
  refine ⟨fun s w ea h => ?_, fun s ea h0 h1 => ?_, fun s ea lo h => ?_, fun s ea lo hi h0 h1 => ?_⟩
  · exact State.memRead_missing (State.firstMissing_first w (State.hasDataByte_false.2 h))
  · have missing : s.hasDataByte (ea + 1) = false := State.hasDataByte_false.2 h1
    exact State.memRead_missing (State.firstMissing_second (State.hasDataByte_true.2 h0) missing)
  · exact ⟨_, State.memRead_byte h, BitVec.toNat_setWidth_of_le (by decide)⟩
  · rw [dataAddr_ofNat_succ] at h1
    exact ⟨_, State.memRead_word h0 h1, toNat_bytePair hi lo⟩

/-! Reads after the write of a word (R50). -/

/-- The two stores of a word do not meet: the second address is never the first, at 0xFFFF neither. -/
theorem State.holds_storeBytes_word {s : State} {a : DataAddr} (v : Word) (h0 : s.hasDataByte a = true)
    (h1 : s.hasDataByte (a + 1) = true) :
    (s.storeBytes .word a v).Holds a (v.extractLsb' 0 8) ∧
      (s.storeBytes .word a v).Holds (a + 1) (v.extractLsb' 8 8) := by
  have apart : a ≠ a + 1 := by simp
  refine ⟨⟨h0, ?_⟩, h1, ?_⟩
  · rw [State.storeBytes, State.dataByte_setDataByte, if_neg apart, State.dataByte_setDataByte, if_pos rfl]
  · rw [State.storeBytes, State.dataByte_setDataByte, if_pos rfl]

theorem State.memWrite_word_holds {s t : State} {a : DataAddr} {v : Word} (h : s.memWrite .word a v = .done t) :
    t.Holds a (v.extractLsb' 0 8) ∧ t.Holds (a + 1) (v.extractLsb' 8 8) := by
  rcases s.memWrite_cases .word a v with ⟨b, -, e⟩ | ⟨present, e⟩
  · rw [e] at h; cases h
  · obtain ⟨h0, h1⟩ := State.firstMissing_word.1 present
    rw [e] at h; cases h
    exact State.holds_storeBytes_word v h0 h1

/-- Settles O30. -/
theorem littleEndian : Obligations.LittleEndian := by
  intro s t a v h
  obtain ⟨low, high⟩ := State.memWrite_word_holds h
  have word : t.memRead .word a = .done v :=
    (State.memRead_word low high).trans (congrArg Access.done (highByte_append_lowByte v))
  exact ⟨low.2, high.2, word, State.memRead_byte_ofNat low (toNat_lowByte v),
    State.memRead_byte_ofNat high (toNat_highByte v)⟩

end Sys2Proof.Machine
end

section
/-!
PROOFS. The length of an instruction (R80) and the top bit of a second word (R81).
-/

namespace Sys2Proof

/-! Bit 15 and the decoder. -/

theorem fieldsOf_top_eq_one {w : Word} : (fieldsOf w).top = 1 ↔ w.getLsbD 15 = true := by
  rw [← Machine.isLong_eq, Machine.isLong, decide_eq_true_iff]

theorem fieldsOf_top_eq_zero {w : Word} : (fieldsOf w).top = 0 ↔ w.getLsbD 15 = false := by
  rw [← Bool.not_eq_true, ← fieldsOf_top_eq_one]
  rcases BitVec.eq_zero_or_eq_one (fieldsOf w).top with h | h <;> simp [h]

theorem decode_short {w0 : Word} (rest : List Word) (h : w0.getLsbD 15 = false) :
    decode (w0 :: rest) = decode16 (fieldsOf w0) :=
  if_pos (fieldsOf_top_eq_zero.2 h)

theorem fieldsOf_top_ne_zero {w : Word} (h : w.getLsbD 15 = true) : (fieldsOf w).top ≠ 0 := by
  rw [Ne, fieldsOf_top_eq_zero, h]
  exact Bool.noConfusion

theorem decode_long {w0 : Word} (w1 : Word) (rest : List Word) (h : w0.getLsbD 15 = true) :
    decode (w0 :: w1 :: rest) = decode32 (fieldsOf w0) (fieldsOf w1) :=
  if_neg (fieldsOf_top_ne_zero h)

theorem decode_truncated {w0 : Word} (h : w0.getLsbD 15 = true) : decode [w0] = .error .truncated :=
  if_neg (fieldsOf_top_ne_zero h)

/-! Each opcode map holds instructions of one length: an arm answers one of them or refuses. -/

theorem decodeAlu16_words {f : Fields} {i : Instr} (h : decodeAlu16 f = .ok i) : i.words = 1 := by
  unfold decodeAlu16 at h
  (repeat' split at h) <;> cases h <;> rfl

theorem decodeLoadStore16_words {f : Fields} {i : Instr} (h : decodeLoadStore16 f = .ok i) : i.words = 1 := by
  unfold decodeLoadStore16 at h
  split at h <;> cases h <;> rfl

theorem decodeBranch16_words {f : Fields} {i : Instr} (h : decodeBranch16 f = .ok i) : i.words = 1 := by
  unfold decodeBranch16 at h
  (repeat' split at h) <;> cases h <;> rfl

theorem decodeMisc16_words {f : Fields} {i : Instr} (h : decodeMisc16 f = .ok i) : i.words = 1 := by
  unfold decodeMisc16 at h
  split at h
  · split at h <;> cases h
    rfl
  · cases h

theorem decode16_words {f : Fields} {i : Instr} (h : decode16 f = .ok i) : i.words = 1 := by
  unfold decode16 at h
  split at h
  · exact decodeAlu16_words h
  · exact decodeLoadStore16_words h
  · exact decodeBranch16_words h
  · exact decodeMisc16_words h

theorem decodeAlu32_words {f g : Fields} {i : Instr} (h : decodeAlu32 f g = .ok i) : i.words = 2 := by
  unfold decodeAlu32 at h
  (repeat' split at h) <;> cases h <;> rfl

theorem decodeLoadStore32_words {f g : Fields} {i : Instr} (h : decodeLoadStore32 f g = .ok i) : i.words = 2 := by
  unfold decodeLoadStore32 at h
  split at h <;> cases h <;> rfl

theorem decodeBranch32_words {f g : Fields} {i : Instr} (h : decodeBranch32 f g = .ok i) : i.words = 2 := by
  unfold decodeBranch32 at h
  (repeat' split at h) <;> cases h <;> rfl

theorem decode32_words {f g : Fields} {i : Instr} (h : decode32 f g = .ok i) : i.words = 2 := by
  unfold decode32 at h
  split at h
  · cases h
  · split at h
    · cases h
    · split at h
      · exact decodeAlu32_words h
      · exact decodeLoadStore32_words h
      · exact decodeBranch32_words h
      · cases h

theorem decode_words {w0 : Word} {rest : List Word} {i : Instr} (h : decode (w0 :: rest) = .ok i) :
    i.words = if w0.getLsbD 15 then 2 else 1 := by
  cases hb : w0.getLsbD 15 with
  | false => exact decode16_words ((decode_short rest hb).symm.trans h)
  | true =>
    cases rest with
    | nil => cases (decode_truncated hb).symm.trans h
    | cons w1 rest => exact decode32_words ((decode_long w1 rest hb).symm.trans h)

/-- Settles O3: the decoder by the opcode maps, the fetch by its two laws. -/
theorem instructionLength : Obligations.InstructionLength :=
  ⟨fun _ _ _ => decode_words, fun _ _ => Machine.State.fetch_short, fun _ _ _ => Machine.State.fetch_long⟩

/-! The second word. -/

theorem long_secondWord_top (cls : BitVec 2) (op grp : BitVec 4) (d a b d' a' b' : BitVec 3) :
    ∃ w0 w1, long cls op grp d a b d' a' b' = [w0, w1] ∧ w1.getLsbD 15 = false :=
  ⟨_, _, rfl, (Fields.word_top _).trans BitVec.getLsbD_zero⟩

/-- The encoder builds every 32-bit instruction with `long`. -/
theorem encode_secondWord_top {i : Instr} (h : i.words = 2) :
    ∃ w0 w1, encode i = [w0, w1] ∧ w1.getLsbD 15 = false := by
  cases i with
  | nop16 | add16 | sub16 | and16 | or16 | xor16 | asr16 | lsl16 | lsr16 | mov16 | addi16 | subi16 | asri16 | lsli16
  | lsri16 | movi16 | ldb16 | ldw16 | ldbPost16 | ldwPost16 | ldbPre16 | ldwPre16 | stb16 | stw16 | stbPost16
  | stwPost16 | stbPre16 | stwPre16 | bra16 | bal16 | beq16 | bne16 | blts16 | bles16 | bltu16 | bleu16 | jmp16
  | jal16 | jeq16 | jne16 | jlts16 | jles16 | jltu16 | jleu16 | rte16 => cases h
  | _ => exact long_secondWord_top ..

theorem decode_longerThan32Bits {w0 w1 : Word} (rest : List Word) (h0 : w0.getLsbD 15 = true)
    (h1 : w1.getLsbD 15 = true) : decode (w0 :: w1 :: rest) = .error .longerThan32Bits :=
  (decode_long w1 rest h0).trans (if_pos (fieldsOf_top_ne_zero h1))

/-- Where the decoder refuses the fetched words, the step faults with its reason. -/
theorem Machine.step_reserved {s : Machine.State} {ws : List Word} {r : Reserved} (hr : s.run = .running)
    (hf : s.fetch = .got ws) (hd : decode ws = .error r) : Machine.step s = .fault (.reservedInstruction r) := by
  simp only [Machine.step, hr, hf, hd]

/-- Settles O4: the fetch takes the two words, and on them the decoder refuses. -/
theorem secondWordTopBit : Obligations.SecondWordTopBit := by
  refine ⟨fun _ => encode_secondWord_top, fun _ _ => decode_longerThan32Bits, ?step⟩
  case step =>
    intro s w0 w1 running top0 top1 has0 word0 has1 word1
    exact Machine.step_reserved running (Machine.State.fetch_long has0 word0 top0 has1 word1)
      (decode_longerThan32Bits [] top0 top1)

end Sys2Proof
end

section
/-!
PROOFS. The immediate shifts (R94): what an ALU instruction with one source register leaves behind, and the shifts as
integer arithmetic.
-/

namespace Sys2Proof.Machine

/-! What one register write leaves behind. -/

theorem State.becomes_setReg (s : State) (d : RegNum) (v : Word) (c : Bool) (pc : CodeAddr) :
    s.Becomes (((s.setReg d v).setCarry c).goto pc) [(d, v)] c pc [] := by
  refine ⟨?written, ?kept, rfl, rfl, rfl, by simp, fun _ _ => rfl, fun _ => rfl, rfl⟩
  case written => simp [State.reg_setReg]
  case kept =>
    intro n hn
    have other : n ≠ d := by simpa using hn
    simp [State.reg_setReg, other]

theorem State.quiet_setReg (s : State) (d : RegNum) (v : Word) (c : Bool) (pc : CodeAddr) :
    s.Quiet (((s.setReg d v).setCarry c).goto pc) := ⟨rfl, rfl, rfl, rfl⟩

section
variable {s : State} {len : Nat} {d a : RegNum}

theorem aluRCarry_completes (f : Word → Bool → Word) (g : Word → Bool → Bool)
    (h : ∀ n ∈ [d, a], s.hasReg n = true) :
    ∃ t, aluRCarry len f g d a s = .next t ∧
      s.Becomes t [(d, f (s.reg a) s.carry)] (g (s.reg a) s.carry) (s.nextPc len) [] ∧ s.Quiet t :=
  ⟨_, checkRegs_present _ h, s.becomes_setReg .., s.quiet_setReg ..⟩

/-- An instruction that leaves carry alone writes the old carry back. -/
theorem aluR_eq_aluRCarry (f : Word → Word) :
    aluR len f d a s = aluRCarry len (fun x _ => f x) (fun _ c => c) d a s := rfl

theorem aluR_completes (f : Word → Word) (h : ∀ n ∈ [d, a], s.hasReg n = true) :
    ∃ t, aluR len f d a s = .next t ∧
      s.Becomes t [(d, f (s.reg a))] s.carry (s.nextPc len) [] ∧ s.Quiet t :=
  aluR_eq_aluRCarry f ▸ aluRCarry_completes _ _ h

end

/-! The shifts as integer arithmetic (R127, R128). -/

theorem lslResult_eq_shiftLeft (x : Word) (n : Nat) : lslResult x n = x <<< n := by
  rw [lslResult, ite_eq_left_iff]
  exact fun h => (BitVec.shiftLeft_eq_zero (not_lt.1 h)).symm

theorem lslResult_eq (x : Word) (n : Nat) : lslResult x n = BitVec.ofInt 16 (x.toNat * 2 ^ n) := by
  have cast : (x.toNat * 2 ^ n : Int) = (x.toNat * 2 ^ n : Nat) := by push_cast; rfl
  rw [lslResult_eq_shiftLeft, cast, BitVec.ofInt_natCast]
  apply BitVec.eq_of_toNat_eq
  rw [BitVec.toNat_shiftLeft, Nat.shiftLeft_eq, BitVec.toNat_ofNat]

theorem lsrResult_eq (x : Word) (n : Nat) : lsrResult x n = BitVec.ofInt 16 (x.toNat / 2 ^ n) := by
  have cast : (x.toNat / 2 ^ n : Int) = (x.toNat / 2 ^ n : Nat) := by push_cast; rfl
  rw [lsrResult, cast, BitVec.ofInt_natCast]
  apply BitVec.eq_of_toNat_eq
  rw [BitVec.toNat_ushiftRight, Nat.shiftRight_eq_div_pow, BitVec.toNat_ofNat]
  exact (Nat.mod_eq_of_lt ((Nat.div_le_self _ _).trans_lt x.isLt)).symm

/-! The three shifts by a constant of any width: the amount is the field plus one. -/

section
variable {s : State} {len k : Nat} {d a : RegNum} (imm : BitVec k) (h : ∀ n ∈ [d, a], s.hasReg n = true)
include h

theorem asri_completes :
    ∃ t, aluRCarry len (fun x c => asrResult x (shiftAmount imm) c) (fun _ _ => asrCarry) d a s = .next t ∧
      s.Becomes t [(d, BitVec.ofInt 16 ((s.int a + (if s.carry then 65536 else 0)) / 2 ^ (imm.toNat + 1)))] false
        (s.nextPc len) [] ∧ s.Quiet t :=
  asrResult_eq (s.reg a) (imm.toNat + 1) s.carry ▸ aluRCarry_completes _ _ h

theorem lsli_completes :
    ∃ t, aluR len (fun x => lslResult x (shiftAmount imm)) d a s = .next t ∧
      s.Becomes t [(d, BitVec.ofInt 16 (s.int a * 2 ^ (imm.toNat + 1)))] s.carry (s.nextPc len) [] ∧ s.Quiet t :=
  lslResult_eq (s.reg a) (imm.toNat + 1) ▸ aluR_completes _ h

theorem lsri_completes :
    ∃ t, aluR len (fun x => lsrResult x (shiftAmount imm)) d a s = .next t ∧
      s.Becomes t [(d, BitVec.ofInt 16 (s.int a / 2 ^ (imm.toNat + 1)))] s.carry (s.nextPc len) [] ∧ s.Quiet t :=
  lsrResult_eq (s.reg a) (imm.toNat + 1) ▸ aluR_completes _ h

end

/-- Settles O37: the 16-bit forms, then the 32-bit forms, each as its shape. -/
theorem shiftConstants : Obligations.ShiftConstants :=
  ⟨fun imm => ⟨Nat.le_add_left 1 _, imm.isLt⟩, fun _ _ _ imm h => asri_completes imm h,
    fun _ _ _ imm h => lsli_completes imm h, fun _ _ _ imm h => lsri_completes imm h,
    fun imm => ⟨Nat.le_add_left 1 _, imm.isLt⟩, fun _ _ _ imm h => asri_completes imm h,
    fun _ _ _ imm h => lsli_completes imm h, fun _ _ _ imm h => lsri_completes imm h⟩

end Sys2Proof.Machine
end

section
/-!
PROOFS. The 16-bit miscellaneous class (R181): its opcode map, and what no instruction but NOP changes.
-/

namespace Sys2Proof

/-! The opcode map of class 11. -/

theorem decode_misc {w0 : Word} (rest : List Word) (h : w0.getLsbD 15 = false) (hc : w0.extractLsb' 13 2 = 3) :
    decode (w0 :: rest) = decodeMisc16 (fieldsOf w0) := by
  have cls : (fieldsOf w0).cls = 3 := hc
  rw [decode_short rest h, decode16, cls]
  rfl

theorem decodeMisc16_ok {f : Fields} {i : Instr} (h : decodeMisc16 f = .ok i) : f.op = 0 ∧ i = .rte16 f.d := by
  unfold decodeMisc16 at h
  split at h
  next opcode =>
    split at h
    next => cases h; exact ⟨BitVec.eq_of_toNat_eq opcode, rfl⟩
    next => cases h
  next => cases h

namespace Machine

/-! What the instructions leave alone. -/

/-- `g` is a quantity that no write of an instruction changes, NOP's own side effects aside. -/
structure KeptByWrites {α : Type} (g : State → α) : Prop where
  setReg : ∀ s n v, g (s.setReg n v) = g s
  setDataByte : ∀ s a b, g (s.setDataByte a b) = g s
  setCarry : ∀ s c, g (s.setCarry c) = g s
  goto : ∀ s a, g (s.goto a) = g s
  takeBusError : ∀ s e, g (s.takeBusError e) = g s

theorem keptByWrites_run : KeptByWrites State.run := by
  constructor <;> intros <;> rfl

theorem keptByWrites_stdout : KeptByWrites State.stdout := by
  constructor <;> intros <;> rfl

theorem keptByWrites_stderr : KeptByWrites State.stderr := by
  constructor <;> intros <;> rfl

theorem keptByWrites_statusRest : KeptByWrites State.statusRest := by
  constructor <;> intros <;> rfl

section
variable {α : Type} {g : State → α} (hg : KeptByWrites g)
include hg

theorem KeptByWrites.putRegs (s : State) (l : List (RegNum × Word)) : g (s.putRegs l) = g s := by
  induction l generalizing s with
  | nil => rfl
  | cons p l ih => exact (ih (s.setReg p.1 p.2)).trans (hg.setReg s p.1 p.2)

theorem KeptByWrites.putBytes (s : State) (l : List (DataAddr × Byte)) : g (s.putBytes l) = g s := by
  induction l generalizing s with
  | nil => rfl
  | cons p l ih => exact (ih (s.setDataByte p.1 p.2)).trans (hg.setDataByte s p.1 p.2)

/-- Of a NOP it is asked that its side effects keep the quantity too. -/
theorem KeptByWrites.exec {i : Instr} {s t : State} (h : Machine.exec i s = .next t)
    (hn : i.isNop = true → ∀ k d u, g (nopEffect k d u) = g u) : g t = g s := by
  cases exec_next h with
  | busError => exact hg.takeBusError s _
  | nop k d isNop => exact (hn isNop k d _).trans (hg.goto s _)
  | writes => rw [hg.goto, hg.setCarry, hg.putRegs, hg.putBytes]

theorem KeptByWrites.exec_of_not_nop {i : Instr} {s t : State} (h : Machine.exec i s = .next t)
    (hi : i.isNop = false) : g t = g s :=
  hg.exec h fun isNop => absurd (isNop.symm.trans hi) Bool.noConfusion

end

@[simp] theorem nopEffect_statusRest (k : Nat) (d : RegNum) (s : State) :
    (nopEffect k d s).statusRest = s.statusRest := by
  unfold nopEffect
  split <;> rfl

/-- Settles O5: class 11 by its opcode map, then what the instructions leave alone. -/
theorem miscellaneousClass : Obligations.MiscellaneousClass := by
  refine ⟨?opcodes, ?outputs, ?status⟩
  case opcodes => exact fun w0 i short cls h => decodeMisc16_ok ((decode_misc [] short cls).symm.trans h)
  case outputs =>
    exact fun i s t h hi => ⟨keptByWrites_run.exec_of_not_nop h hi, keptByWrites_stdout.exec_of_not_nop h hi,
      keptByWrites_stderr.exec_of_not_nop h hi⟩
  case status => exact fun i s t h => keptByWrites_statusRest.exec h fun _ => nopEffect_statusRest

end Machine

end Sys2Proof
end

section
/-!
PROOFS. The true no-operation instruction (R294): NOP with constant 1.
-/

namespace Sys2Proof.Machine

/-! What a move of the pc leaves behind. -/

theorem State.becomes_goto (s : State) (pc : CodeAddr) : s.Becomes (s.goto pc) [] s.carry pc [] := by
  refine ⟨?written, fun _ _ => rfl, rfl, rfl, rfl, ?stored, fun _ _ => rfl, fun _ => rfl, rfl⟩
  case written => exact List.forall_mem_nil _
  case stored => exact List.forall_mem_nil _

theorem State.quiet_goto (s : State) (pc : CodeAddr) : s.Quiet (s.goto pc) := ⟨rfl, rfl, rfl, rfl⟩

/-! NOP without a side effect. -/

theorem nopPlain_completes {s : State} {d : RegNum} (len : Nat) (h : ∀ n ∈ [d], s.hasReg n = true) :
    ∃ t, nopPlain len d s = .next t ∧ s.Becomes t [] s.carry (s.nextPc len) [] ∧ s.Quiet t :=
  ⟨_, checkRegs_present _ h, s.becomes_goto _, s.quiet_goto _⟩

theorem exec_nop16_one (s : State) (d : ShortReg) : exec (.nop16 d 1) s = nopPlain 1 (regOf d) s := rfl

/-- Settles O40: the constant 1 selects the NOP without a side effect; its word for R0 is decoded. -/
theorem nopOne : Obligations.NopOne := by
  refine ⟨fun s d named => ?completes, ?word⟩
  case completes =>
    rw [exec_nop16_one]
    exact nopPlain_completes 1 named
  case word => decide

end Sys2Proof.Machine
end

section
/-!
PROOFS. Decoder and encoder are inverse (30_encoding.md): the words of an instruction are read as that instruction, and
the words read as an instruction are the words of that instruction.
-/

namespace Sys2Proof

/-! The decoder on the words that the encoder builds. -/

theorem decode_short_append (cls : BitVec 2) (op : BitVec 4) (d a b : BitVec 3) (rest : List Word) :
    decode (short cls op d a b ++ rest) = decode16 ⟨0, cls, op, d, a, b⟩ := by
  rw [short, List.singleton_append, decode_short _ ((Fields.word_top _).trans BitVec.getLsbD_zero), fieldsOf_word]

theorem getLsbD_one_zero : (1 : BitVec 1).getLsbD 0 = true := by decide

theorem decode_long_append (cls : BitVec 2) (op grp : BitVec 4) (d a b d' a' b' : BitVec 3) (rest : List Word) :
    decode (long cls op grp d a b d' a' b' ++ rest) =
      decode32 ⟨1, cls, op, d, a, b⟩ ⟨0, 0, grp, d', a', b'⟩ := by
  rw [long, List.cons_append, List.singleton_append, decode_long _ _ ((Fields.word_top _).trans getLsbD_one_zero), fieldsOf_word,
    fieldsOf_word]

/-! The group bits of ANDI, ORI and XORI: three bits of the constant above a 1. -/

theorem group_low (x : BitVec 3) : (x ++ 1#1 : BitVec 4).extractLsb' 0 1 = 1#1 :=
  BitVec.extractLsb'_append_eq_right

theorem group_high (x : BitVec 3) : (x ++ 1#1 : BitVec 4).extractLsb' 1 3 = x :=
  BitVec.extractLsb'_append_eq_left

theorem group_ne_zero (x : BitVec 3) : (x ++ 1#1 : BitVec 4) ≠ 0#4 := by
  intro h
  exact absurd ((group_low x).symm.trans (congrArg (BitVec.extractLsb' 0 1) h)) (by decide)

theorem group_split {g : BitVec 4} (h : g.extractLsb' 0 1 = 1#1) : g.extractLsb' 1 3 ++ 1#1 = g := by
  rw [← h]
  revert g
  decide

theorem decode_encode (i : Instr) (rest : List Word) : decode (encode i ++ rest) = .ok i := by
  cases i with
  | nop16 | add16 | sub16 | and16 | or16 | xor16 | asr16 | lsl16 | lsr16 | mov16 | addi16 | subi16 | asri16 | lsli16
  | lsri16 | movi16 =>
    simp [encode, decode_short_append, decode16, decodeAlu16, join6]
  | ldb16 | ldw16 | ldbPost16 | ldwPost16 | ldbPre16 | ldwPre16 | stb16 | stw16 | stbPost16 | stwPost16 | stbPre16
  | stwPre16 =>
    simp [encode, decode_short_append, decode16, decodeLoadStore16]
  | bra16 | bal16 | beq16 | bne16 | blts16 | bles16 | bltu16 | bleu16 | jmp16 | jal16 | jeq16 | jne16 | jlts16
  | jles16 | jltu16 | jleu16 =>
    simp [encode, decode_short_append, decode16, decodeBranch16, join6, join9]
  | rte16 => simp [encode, decode_short_append, decode16, decodeMisc16]
  | andi32 | ori32 | xori32 =>
    simp [encode, decode_long_append, decode32, decodeAlu32, join6, join9_high, group_low, group_high, group_ne_zero]
  | nop32 | add32 | sub32 | and32 | or32 | xor32 | asr32 | lsl32 | lsr32 | mov32 | addi32 | subi32 | asri32 | lsli32
  | lsri32 | movi32 | addc32 | subc32 =>
    simp [encode, decode_long_append, decode32, decodeAlu32, join6, join10, join12, join16]
  | ldb32 | ldw32 | ldbPost32 | ldwPost32 | ldbPre32 | ldwPre32 | stb32 | stw32 | stbPost32 | stwPost32 | stbPre32
  | stwPre32 =>
    simp [encode, decode_long_append, decode32, decodeLoadStore32, join6, join10]
  | _ =>
    simp [encode, decode_long_append, decode32, decodeBranch32, join6, join10, join16, join22]

/-- Settles O1: map by map, the decoder on the encoder's words joins the pieces of each field again. -/
theorem decodeEncode : Obligations.DecodeEncode := decode_encode

/-! The pieces of a field that the decoder has joined from slots. -/

@[simp] theorem piece_append_zero {n : Nat} (x : BitVec n) (y : BitVec 3) : piece (x ++ y) 0 = y :=
  BitVec.extractLsb'_append_eq_right

@[simp] theorem piece_append_succ {n : Nat} (x : BitVec n) (y : BitVec 3) (k : Nat) :
    piece (x ++ y) (k + 1) = piece x k := by
  have start : 3 * (k + 1) - 3 = 3 * k := by omega
  rw [piece, BitVec.extractLsb'_append_eq_of_le (by omega), start, piece]

@[simp] theorem piece_zero (x : BitVec 3) : piece x 0 = x := BitVec.extractLsb'_eq_self

/-- The bits of a field above its pieces are those of the part that is joined on the left. -/
@[simp] theorem extractLsb'_append_slot {n : Nat} (x : BitVec n) (y : BitVec 3) (k l : Nat) :
    (x ++ y).extractLsb' (k + 3) l = x.extractLsb' k l := by
  rw [BitVec.extractLsb'_append_eq_of_le (by omega), Nat.add_sub_cancel]

/-! Map by map, what the decoder answers is encoded as the frame it was read from: the opcode is the arm's number, and
a slot that the instruction does not use is the zero that the arm has checked. -/

theorem opcode_eq {op : BitVec 4} {n : Nat} (h : op.toNat = n) : op = BitVec.ofNat 4 n := by
  rw [← h, BitVec.ofNat_toNat, BitVec.setWidth_eq]

/-- The last arm of a map: a 4-bit opcode that is none of 0 to 14 is 15. -/
theorem opcode_last {op : BitVec 4} (h : ¬ op.toNat ≤ 14) : op = 15 :=
  opcode_eq (n := 15) (by omega)

theorem encode_of_decodeAlu16 {f : Fields} {i : Instr} (h : decodeAlu16 f = .ok i) :
    encode i = short 0 f.op f.d f.a f.b := by
  unfold decodeAlu16 at h
  split at h
  case h_10 op =>
    split at h <;> cases h
    simp [encode, opcode_eq op, *]
  case h_16 =>
    have op : f.op = 15 := opcode_last (by simp only [imp_false] at *; omega)
    cases h
    simp [encode, op]
  all_goals
    cases h
    simp [encode, opcode_eq ‹f.op.toNat = _›]

theorem encode_of_decodeLoadStore16 {f : Fields} {i : Instr} (h : decodeLoadStore16 f = .ok i) :
    encode i = short 1 f.op f.d f.a f.b := by
  unfold decodeLoadStore16 at h
  split at h <;> cases h
  all_goals simp [encode, opcode_eq ‹f.op.toNat = _›]

theorem encode_of_decodeBranch16 {f : Fields} {i : Instr} (h : decodeBranch16 f = .ok i) :
    encode i = short 2 f.op f.d f.a f.b := by
  unfold decodeBranch16 at h
  split at h
  case h_9 op | h_10 op =>
    split at h <;> cases h
    simp [encode, opcode_eq op, *]
  case h_16 =>
    have op : f.op = 15 := opcode_last (by simp only [imp_false] at *; omega)
    cases h
    simp [encode, op]
  all_goals
    cases h
    simp [encode, opcode_eq ‹f.op.toNat = _›]

theorem encode_of_decodeMisc16 {f : Fields} {i : Instr} (h : decodeMisc16 f = .ok i) :
    encode i = short 3 f.op f.d f.a f.b := by
  unfold decodeMisc16 at h
  split at h
  case h_1 op =>
    split at h <;> cases h
    simp [encode, opcode_eq op, *]
  case h_2 => cases h

theorem encode_of_decodeAlu32 {f g : Fields} {i : Instr} (h : decodeAlu32 f g = .ok i) :
    encode i = long 0 f.op g.op f.d f.a f.b g.d g.a g.b := by
  unfold decodeAlu32 at h
  split at h
  case h_16 =>
    have op : f.op = 15 := opcode_last (by simp only [imp_false] at *; omega)
    cases h
    simp [encode, op]
  all_goals
    have op := opcode_eq ‹f.op.toNat = _›
    (repeat' split at h) <;> cases h
    all_goals
      simp only [encode, op]
      simp [*, group_split]

theorem encode_of_decodeLoadStore32 {f g : Fields} {i : Instr} (h : decodeLoadStore32 f g = .ok i) :
    encode i = long 1 f.op g.op f.d f.a f.b g.d g.a g.b := by
  unfold decodeLoadStore32 at h
  split at h <;> cases h
  all_goals simp [encode, opcode_eq ‹f.op.toNat = _›]

theorem encode_of_decodeBranch32 {f g : Fields} {i : Instr} (h : decodeBranch32 f g = .ok i) :
    encode i = long 2 f.op g.op f.d f.a f.b g.d g.a g.b := by
  unfold decodeBranch32 at h
  split at h
  case h_16 =>
    have op : f.op = 15 := opcode_last (by simp only [imp_false] at *; omega)
    (repeat' split at h) <;> cases h
    all_goals
      simp only [encode, op]
      simp [*]
  all_goals
    have op := opcode_eq ‹f.op.toNat = _›
    (repeat' split at h) <;> cases h
    all_goals
      simp only [encode, op]
      simp [*]

/-! The two lengths. -/

theorem class_cases (c : BitVec 2) : c = 0 ∨ c = 1 ∨ c = 2 ∨ c = 3 := by
  revert c
  decide

theorem encode_of_decode16 {f : Fields} {i : Instr} (h : decode16 f = .ok i) :
    encode i = short f.cls f.op f.d f.a f.b := by
  unfold decode16 at h
  rcases class_cases f.cls with cls | cls | cls | cls <;> rw [cls] at h ⊢
  · exact encode_of_decodeAlu16 h
  · exact encode_of_decodeLoadStore16 h
  · exact encode_of_decodeBranch16 h
  · exact encode_of_decodeMisc16 h

theorem encode_of_decode32 {f g : Fields} {i : Instr} (h : decode32 f g = .ok i) :
    g.top = 0 ∧ g.cls = 0 ∧ encode i = long f.cls f.op g.op f.d f.a f.b g.d g.a g.b := by
  unfold decode32 at h
  split at h
  case isTrue => cases h
  case isFalse top =>
    split at h
    case isTrue => cases h
    case isFalse high =>
      refine ⟨not_not.1 top, not_not.1 high, ?_⟩
      rcases class_cases f.cls with cls | cls | cls | cls <;> rw [cls] at h ⊢
      · exact encode_of_decodeAlu32 h
      · exact encode_of_decodeLoadStore32 h
      · exact encode_of_decodeBranch32 h
      · cases h

/-- A word is its frame again. -/
theorem short_fieldsOf {w : Word} (h : (fieldsOf w).top = 0) :
    short (fieldsOf w).cls (fieldsOf w).op (fieldsOf w).d (fieldsOf w).a (fieldsOf w).b = [w] := by
  rw [short, ← h]
  exact congrArg (fun v => [v]) (word_fieldsOf w)

theorem long_fieldsOf {w0 w1 : Word} (h0 : (fieldsOf w0).top = 1) (h1 : (fieldsOf w1).top = 0)
    (hc : (fieldsOf w1).cls = 0) :
    long (fieldsOf w0).cls (fieldsOf w0).op (fieldsOf w1).op (fieldsOf w0).d (fieldsOf w0).a (fieldsOf w0).b
      (fieldsOf w1).d (fieldsOf w1).a (fieldsOf w1).b = [w0, w1] := by
  have first := word_fieldsOf w0
  have second := word_fieldsOf w1
  rw [long, ← h0, ← h1, ← hc]
  exact congrArg₂ (fun v v' => [v, v']) first second

theorem encode_of_decode_short {w0 : Word} {rest : List Word} {i : Instr} (hb : w0.getLsbD 15 = false)
    (h : decode (w0 :: rest) = .ok i) : encode i = [w0] := by
  rw [decode_short rest hb] at h
  exact (encode_of_decode16 h).trans (short_fieldsOf (fieldsOf_top_eq_zero.2 hb))

theorem encode_of_decode_long {w0 w1 : Word} {rest : List Word} {i : Instr} (hb : w0.getLsbD 15 = true)
    (h : decode (w0 :: w1 :: rest) = .ok i) : encode i = [w0, w1] := by
  rw [decode_long w1 rest hb] at h
  obtain ⟨top, cls, he⟩ := encode_of_decode32 h
  exact he.trans (long_fieldsOf (fieldsOf_top_eq_one.2 hb) top cls)

/-- Settles O2: bit 15 of the first word says how many words the decoder has read, and their frames are the encoding. -/
theorem encodeDecode : Obligations.EncodeDecode := by
  intro ws i h
  cases ws with
  | nil => cases h
  | cons w0 rest =>
    have words := decode_words h
    cases hb : w0.getLsbD 15 with
    | false =>
      rw [words, hb, encode_of_decode_short hb h]
      rfl
    | true =>
      cases rest with
      | nil => cases (decode_truncated hb).symm.trans h
      | cons w1 rest =>
        rw [words, hb, encode_of_decode_long hb h]
        rfl

end Sys2Proof
end

section
/-!
PROOFS. The checks before an instruction (R23, R254, R298) and how an instruction can end once they have passed.
-/

namespace Sys2Proof.Machine

/-- How an instruction can end once its registers, its pair and its NOP32_EFFECTS are checked: with a next state, or
with one of the two faults that depend on operands or memory. -/
inductive AfterChecks : Result → Prop
  | next (t : State) : AfterChecks (.next t)
  | overlap : AfterChecks (.fault .unspecifiedOverlap)
  | unwritten (a : DataAddr) : AfterChecks (.fault (.unwrittenRead a))

theorem AfterChecks.finish {α : Type} {r : Access α} {s : State} {k : α → Result} (h : ∀ a, AfterChecks (k a)) :
    AfterChecks (r.finish s k) := by
  cases r with
  | done a => exact h a
  | busError _ => exact .next _
  | unwritten a => exact .unwritten a

theorem AfterChecks.overlapOr {k : Result} {c : Prop} [Decidable c] (h : AfterChecks k) :
    AfterChecks (if c then .fault .unspecifiedOverlap else k) := by
  split
  · exact .overlap
  · exact h

/-! The shapes whose checks are not the check of the named registers alone. -/

theorem checkRegs_cons_present {n : RegNum} {ns : List RegNum} {s : State} (k : Result) (h : s.hasReg n = true) :
    checkRegs (n :: ns) s k = checkRegs ns s k := by
  simp only [checkRegs, List.find?_cons, h, Bool.not_true]

theorem State.HasPair.hasReg {s : State} {d : RegNum} (h : s.HasPair d) : s.hasReg d = true := by
  obtain ⟨-, next⟩ := h
  exact decide_eq_true (by omega)

/-- R(d+1) exists and with it Rd, so a good pair passes the check of Rd. -/
theorem checkPair_checkRegs {d : RegNum} {ns : List RegNum} {s : State} (k : Result) (h : s.HasPair d) :
    checkPair d s (checkRegs ns s k) = checkRegs (d :: ns) s k := by
  rw [checkPair_good _ h, checkRegs_cons_present k h.hasReg]

theorem jumpLong_checked {d : RegNum} {s : State} (h : s.HasPair d) :
    jumpLong d s = checkRegs [d] s (.next (s.goto (s.pair d))) :=
  (checkPair_checkRegs (ns := []) _ h)

/-- A 32-bit NOP that is not refused checks its register and completes. -/
theorem execNop32_checked {d : RegNum} {imm : BitVec 12} {s : State}
    (h : s.config.nop32 = .refuse → imm.toNat = 1 ∨ 5 ≤ imm.toNat) :
    ∃ t, execNop32 d imm s = checkRegs [d] s (.next t) := by
  unfold execNop32
  split
  next => exact ⟨_, rfl⟩
  next effect =>
    split
    next refuse => exact absurd (h refuse) effect
    next => exact ⟨_, rfl⟩
    next => exact ⟨_, rfl⟩

/-- Every instruction but a long jump with a bad pair and a refused 32-bit NOP checks the registers it names, all of
them and before anything else. -/
theorem exec_checked {i : Instr} {s : State} (hp : ∀ d, i.pair = some d → s.HasPair d)
    (hn : ∀ d imm, i = .nop32 d imm → s.config.nop32 = .refuse → imm.toNat = 1 ∨ 5 ≤ imm.toNat) :
    ∃ k, exec i s = checkRegs i.named s k ∧ AfterChecks k := by
  cases i with
  | ldb16 | ldw16 | ldbPost16 | ldwPost16 | ldbPre16 | ldwPre16 | stb16 | stw16 | stbPost16 | stwPost16 | stbPre16
  | stwPre16 | ldb32 | ldw32 | ldbPost32 | ldwPost32 | ldbPre32 | ldwPre32 | stb32 | stw32 | stbPost32 | stwPost32
  | stbPre32 | stwPre32 => exact ⟨_, rfl, .overlapOr (.finish fun _ => .next _)⟩
  | jal16 | jal32 => exact ⟨_, rfl, .overlapOr (.next _)⟩
  | nop32 d imm =>
    obtain ⟨t, ht⟩ := execNop32_checked (hn d imm rfl)
    exact ⟨_, ht, .next t⟩
  | jmpl32 d => exact ⟨_, jumpLong_checked (hp d rfl), .next _⟩
  | jall32 d b => exact ⟨_, checkPair_checkRegs _ (hp d rfl), .overlapOr (.next _)⟩
  | jeql32 d | jnel32 d | jltsl32 d | jlesl32 d | jltul32 d | jleul32 d =>
    exact ⟨_, checkPair_checkRegs _ (hp d rfl), .next _⟩
  | _ => exact ⟨_, rfl, .next _⟩

/-- Settles O22: the check of the named registers finds the missing one. -/
theorem registerOutOfRange : Obligations.RegisterOutOfRange := by
  intro i s hp hn missing
  obtain ⟨k, checked, -⟩ := exec_checked hp hn
  rw [checked]
  exact checkRegs_missing k missing

/-- Settles O23: each of the eight long jumps checks its pair before anything else. -/
theorem longJumpPair : Obligations.LongJumpPair := by
  intro i d s hi bad
  cases i with
  | jmpl32 | jall32 | jeql32 | jnel32 | jltsl32 | jlesl32 | jltul32 | jleul32 =>
    cases hi
    exact checkPair_bad _ bad
  | _ => cases hi

/-- A 32-bit NOP with an effect faults under the setting `refuse`, whatever its register. -/
theorem execNop32_refused {d : RegNum} {imm : BitVec 12} {s : State} (hr : s.config.nop32 = .refuse)
    (h : ¬ (imm.toNat = 1 ∨ 5 ≤ imm.toNat)) :
    execNop32 d imm s = .fault (.reservedInstruction .nop32Refused) := by
  rw [execNop32, if_neg h, hr]

theorem checkRegs_not_refused {ns : List RegNum} {s : State} {k : Result} {r : Refusal} (hk : AfterChecks k) :
    checkRegs ns s k ≠ .refused r := by
  unfold checkRegs
  split
  · exact nofun
  · cases hk <;> exact nofun

/-- No instruction answers that it has no meaning. -/
theorem exec_not_refused (i : Instr) (s : State) (r : Refusal) : exec i s ≠ .refused r := by
  by_cases hp : ∀ d, i.pair = some d → s.HasPair d
  case neg =>
    push Not at hp
    obtain ⟨d, hd, bad⟩ := hp
    rw [longJumpPair i d s hd bad]
    exact nofun
  case pos =>
    by_cases hn : ∀ d imm, i = .nop32 d imm → s.config.nop32 = .refuse → imm.toNat = 1 ∨ 5 ≤ imm.toNat
    case neg =>
      push Not at hn
      obtain ⟨d, imm, rfl, refuse, small⟩ := hn
      change execNop32 d imm s ≠ _
      rw [execNop32_refused refuse (by omega)]
      exact nofun
    case pos =>
      obtain ⟨k, checked, hk⟩ := exec_checked hp hn
      rw [checked]
      exact checkRegs_not_refused hk

/-- Settles O13: the run state is looked at first; no execution is refused; and what is no NOP keeps the run state. -/
theorem stepsWhileRunning : Obligations.StepsWhileRunning := by
  refine ⟨?ended, ?running, ?stopped⟩
  case ended =>
    intro s h
    unfold step
    split
    next => rfl
    next => rfl
    next running => exact absurd running h
  case running =>
    intro s r running
    simp only [step, running]
    split
    next => exact nofun
    next => exact nofun
    next =>
      split
      next => exact nofun
      next i _ => exact exec_not_refused i s r
  case stopped =>
    intro s t h stopped
    obtain ⟨running, ⟨a, -, rfl⟩ | ⟨ws, i, fetched, decoded, executed⟩⟩ := step_next h
    · exact absurd running stopped
    · refine ⟨ws, i, fetched, decoded, ?_⟩
      by_contra notNop
      have kept := keptByWrites_run.exec_of_not_nop executed (Bool.not_eq_true _ ▸ notNop)
      exact stopped (kept.trans running)

end Sys2Proof.Machine
end

section
/-!
PROOFS. The reserved encodings (R96): which frames each opcode map refuses, that these are the items of the list, and
the step that fetches one.
-/

namespace Sys2Proof

/-! A decoder that answers nothing. -/

section
variable {ε α : Type}

theorem toOption_eq_none {e : Except ε α} : e.toOption = none ↔ ∃ r, e = .error r := by
  cases e <;> simp [Except.toOption]

theorem toOption_eq_none_iff_ne_ok {e : Except ε α} : e.toOption = none ↔ ∀ a, e ≠ .ok a := by
  cases e <;> simp [Except.toOption]

@[simp] theorem ok_toOption (a : α) : (Except.ok a : Except ε α).toOption = some a := rfl

@[simp] theorem error_toOption (r : ε) : (Except.error r : Except ε α).toOption = none := rfl

@[simp] theorem ite_toOption_eq_none {c : Prop} [Decidable c] {x y : Except ε α} :
    (if c then x else y).toOption = none ↔ (c ∧ x.toOption = none) ∨ (¬ c ∧ y.toOption = none) := by
  split <;> simp [*]

end

/-! What each map refuses. -/

theorem decodeAlu16_refuses {f : Fields} : (decodeAlu16 f).toOption = none ↔ f.op = 9 ∧ f.b ≠ 0 := by
  unfold decodeAlu16
  split
  case h_16 =>
    have op : f.op = 15 := opcode_last (by simp only [imp_false] at *; omega)
    simp [op]
  all_goals simp [opcode_eq ‹f.op.toNat = _›]

/-- A load/store opcode that no arm names ends in 11. -/
theorem decodeLoadStore16_refuses {f : Fields} : (decodeLoadStore16 f).toOption = none ↔ f.op ∈ [3, 7, 11, 15] := by
  unfold decodeLoadStore16
  split
  case h_13 =>
    refine iff_of_true rfl ?_
    generalize f.op = op at *
    revert op
    decide
  all_goals simp [opcode_eq ‹f.op.toNat = _›]

theorem decodeBranch16_refuses {f : Fields} : (decodeBranch16 f).toOption = none ↔
    (f.op = 8 ∧ ¬ (f.a = 0 ∧ f.b = 0)) ∨ (f.op = 9 ∧ f.a ≠ 0) := by
  unfold decodeBranch16
  split
  case h_16 =>
    have op : f.op = 15 := opcode_last (by simp only [imp_false] at *; omega)
    simp [op]
  all_goals simp [opcode_eq ‹f.op.toNat = _›]

theorem decodeMisc16_refuses {f : Fields} : (decodeMisc16 f).toOption = none ↔
    f.op ≠ 0 ∨ (f.op = 0 ∧ ¬ (f.a = 0 ∧ f.b = 0)) := by
  unfold decodeMisc16
  split
  case h_1 op => simp [opcode_eq op]
  case h_2 op =>
    have op : f.op ≠ 0 := fun h => op (congrArg BitVec.toNat h)
    exact iff_of_true rfl (.inl op)

theorem decodeAlu32_refuses {f g : Fields} : (decodeAlu32 f g).toOption = none ↔
    (f.op ∈ [0, 6, 7, 8, 9, 12, 13, 14] ∧ g.op ≠ 0) ∨ (f.op ∈ [1, 2] ∧ g.op ∉ [0, 1]) ∨
    (f.op ∈ [3, 4, 5] ∧ g.op ≠ 0 ∧ g.op.extractLsb' 0 1 ≠ 1) ∨
    (f.op = 9 ∧ ¬ (f.b = 0 ∧ g.b = 0)) := by
  unfold decodeAlu32
  split
  case h_16 =>
    have op : f.op = 15 := opcode_last (by simp only [imp_false] at *; omega)
    simp [op]
  case h_10 op => by_cases group : g.op = 0#4 <;> simp [opcode_eq op, group]
  all_goals simp [opcode_eq ‹f.op.toNat = _›]

theorem decodeLoadStore32_refuses {f g : Fields} :
    (decodeLoadStore32 f g).toOption = none ↔ f.op ∈ [3, 7, 11, 15] := by
  unfold decodeLoadStore32
  split
  case h_13 =>
    refine iff_of_true rfl ?_
    generalize f.op = op at *
    revert op
    decide
  all_goals simp [opcode_eq ‹f.op.toNat = _›]

theorem decodeBranch32_refuses {f g : Fields} : (decodeBranch32 f g).toOption = none ↔
    (8 ≤ f.op.toNat ∧ g.op ∉ [0, 1]) ∨ (f.op = 8 ∧ ¬ (f.a = 0 ∧ f.b = 0 ∧ g.a = 0 ∧ g.b = 0)) ∨
    (f.op = 9 ∧ ¬ (f.a = 0 ∧ g.a = 0)) := by
  unfold decodeBranch32
  split
  case h_16 =>
    have op : f.op = 15 := opcode_last (by simp only [imp_false] at *; omega)
    simp [op]
  case h_9 op | h_10 op =>
    by_cases short : g.op = 0#4 <;> by_cases long : g.op = 1#4 <;> simp [opcode_eq op, short, long]
  all_goals simp [opcode_eq ‹f.op.toNat = _›]

theorem decode16_refuses {f : Fields} : (decode16 f).toOption = none ↔
    (f.cls = 0 ∧ (decodeAlu16 f).toOption = none) ∨ (f.cls = 1 ∧ (decodeLoadStore16 f).toOption = none) ∨
    (f.cls = 2 ∧ (decodeBranch16 f).toOption = none) ∨ (f.cls = 3 ∧ (decodeMisc16 f).toOption = none) := by
  rcases class_cases f.cls with cls | cls | cls | cls <;> simp [decode16, cls]

theorem decode32_refuses {f g : Fields} : (decode32 f g).toOption = none ↔
    g.top ≠ 0 ∨ g.cls ≠ 0 ∨
    (f.cls = 0 ∧ (decodeAlu32 f g).toOption = none) ∨ (f.cls = 1 ∧ (decodeLoadStore32 f g).toOption = none) ∨
    (f.cls = 2 ∧ (decodeBranch32 f g).toOption = none) ∨ f.cls = 3 := by
  unfold decode32
  by_cases top : g.top = 0
  case neg => rw [if_pos top]; exact iff_of_true rfl (.inl top)
  by_cases high : g.cls = 0
  case neg => rw [if_neg (not_not.2 top), if_pos high]; exact iff_of_true rfl (.inr (.inl high))
  rcases class_cases f.cls with cls | cls | cls | cls <;> simp [top, high, cls]

/-! R96 speaks of the bits of a word, the decoder of its frame. -/

theorem classBits_eq (w : Word) : classBits w = (fieldsOf w).cls := rfl

theorem opcodeBits_eq (w : Word) : opcodeBits w = (fieldsOf w).op := rfl

theorem slotAZero_eq (w : Word) : slotAZero w = decide ((fieldsOf w).a = 0) := rfl

theorem slotBZero_eq (w : Word) : slotBZero w = decide ((fieldsOf w).b = 0) := rfl

theorem topBit_eq (w : Word) : w.getLsbD 15 = decide ((fieldsOf w).top ≠ 0) := by
  rw [Bool.eq_iff_iff, decide_eq_true_iff, Ne, fieldsOf_top_eq_zero, Bool.not_eq_false]

/-- Items (f): the second word's bits 12..9 are neither 0000 nor end in 1. -/
theorem evenGroup_eq (w : Word) : (!w.getLsbD 9 && w.extractLsb' 10 3 != 0) =
    decide ((fieldsOf w).op ≠ 0 ∧ (fieldsOf w).op.extractLsb' 0 1 ≠ 1) := by
  have low : w.getLsbD 9 = (fieldsOf w).op.getLsbD 0 := by simp [fieldsOf]
  have high : w.extractLsb' 10 3 = (fieldsOf w).op.extractLsb' 1 3 := by
    ext j hj
    simp [fieldsOf, show 1 + j < 4 by omega, ← Nat.add_assoc]
  rw [low, high]
  generalize (fieldsOf w).op = g
  revert g
  decide

theorem reserved16_iff (w : Word) : reserved16 w = true ↔ (decode16 (fieldsOf w)).toOption = none := by
  rw [decode16_refuses, decodeAlu16_refuses, decodeLoadStore16_refuses, decodeBranch16_refuses, decodeMisc16_refuses]
  simp only [reserved16, classBits_eq, opcodeBits_eq, slotAZero_eq, slotBZero_eq]
  rcases class_cases (fieldsOf w).cls with cls | cls | cls | cls <;> simp [cls, imp_iff_not_or]

theorem reserved32_iff {w0 w1 : Word} :
    reserved32 w0 w1 = true ↔ (decode32 (fieldsOf w0) (fieldsOf w1)).toOption = none := by
  rw [decode32_refuses, decodeAlu32_refuses, decodeLoadStore32_refuses, decodeBranch32_refuses]
  simp only [reserved32, Bool.and_assoc, topBit_eq, evenGroup_eq, Bool.or_eq_true, Bool.and_eq_true, decide_eq_true_iff]
  simp only [classBits_eq, opcodeBits_eq, slotAZero_eq, slotBZero_eq]
  rcases class_cases (fieldsOf w0).cls with cls | cls | cls | cls <;> simp [cls, imp_iff_not_or, or_assoc]

/-! Encodings of no instruction. -/

theorem encode_eq_short_iff {w0 : Word} {i : Instr} (hb : w0.getLsbD 15 = false) :
    encode i = [w0] ↔ decode16 (fieldsOf w0) = .ok i := by
  rw [← decode_short [] hb]
  constructor
  · intro h
    have read := decode_encode i []
    rwa [h] at read
  · exact encode_of_decode_short hb

theorem encode_eq_long_iff {w0 w1 : Word} {i : Instr} (hb : w0.getLsbD 15 = true) :
    encode i = [w0, w1] ↔ decode32 (fieldsOf w0) (fieldsOf w1) = .ok i := by
  rw [← decode_long w1 [] hb]
  constructor
  · intro h
    have read := decode_encode i []
    rwa [h] at read
  · exact encode_of_decode_long hb

theorem reserved16_iff_no_encoding {w0 : Word} (hb : w0.getLsbD 15 = false) :
    reserved16 w0 = true ↔ ∀ i, encode i ≠ [w0] := by
  simp only [reserved16_iff, toOption_eq_none_iff_ne_ok, Ne, encode_eq_short_iff hb]

theorem reserved32_iff_no_encoding {w0 w1 : Word} (hb : w0.getLsbD 15 = true) :
    reserved32 w0 w1 = true ↔ ∀ i, encode i ≠ [w0, w1] := by
  simp only [reserved32_iff, toOption_eq_none_iff_ne_ok, Ne, encode_eq_long_iff hb]

namespace Machine

/-! The step that fetches one. -/

theorem step_of_reserved16 {s : State} {w0 : Word} (hr : s.run = .running) (h : s.hasCodeWord s.pc = true)
    (h0 : s.codeWord s.pc = some w0) (hb : w0.getLsbD 15 = false) (refused : (decode16 (fieldsOf w0)).toOption = none) :
    ∃ r, step s = .fault (.reservedInstruction r) := by
  obtain ⟨r, hd⟩ := toOption_eq_none.1 refused
  exact ⟨r, step_reserved hr (State.fetch_short h h0 hb) ((decode_short [] hb).trans hd)⟩

theorem step_of_reserved32 {s : State} {w0 w1 : Word} (hr : s.run = .running) (h : s.hasCodeWord s.pc = true)
    (h0 : s.codeWord s.pc = some w0) (hb : w0.getLsbD 15 = true) (h' : s.hasCodeWord (s.pc + 1) = true)
    (h1 : s.codeWord (s.pc + 1) = some w1) (refused : (decode32 (fieldsOf w0) (fieldsOf w1)).toOption = none) :
    ∃ r, step s = .fault (.reservedInstruction r) := by
  obtain ⟨r, hd⟩ := toOption_eq_none.1 refused
  exact ⟨r, step_reserved hr (State.fetch_long h h0 hb h' h1) ((decode_long w1 [] hb).trans hd)⟩

/-- Once an instruction's checks have passed it is not taken for a reserved encoding. -/
theorem exec_ne_reserved {i : Instr} {s : State} {r : Reserved} (hp : ∀ d, i.pair = some d → s.HasPair d)
    (hn : ∀ d imm, i = .nop32 d imm → s.config.nop32 = .refuse → imm.toNat = 1 ∨ 5 ≤ imm.toNat) :
    exec i s ≠ .fault (.reservedInstruction r) := by
  obtain ⟨k, checked, after⟩ := exec_checked hp hn
  rw [checked]
  by_cases named : s.HasNamed i
  case pos =>
    rw [checkRegs_present k named]
    cases after <;> exact nofun
  case neg =>
    obtain ⟨n, -, -, missing⟩ := checkRegs_missing k named
    rw [missing]
    exact nofun

/-- Settles O55: the list is what the opcode maps refuse, item by item; what they refuse is no instruction's encoding;
and a step reaches the fault by the fetch, the decoder and the check of the pair. -/
theorem reservedEncodings : Obligations.ReservedEncodings := by
  refine ⟨fun _ => reserved16_iff_no_encoding, fun _ _ => reserved32_iff_no_encoding, ?short, ?long, ?pair,
    fun _ _ _ => step_reserved, fun _ _ _ => exec_ne_reserved⟩
  case short =>
    intro s w0 running has0 word0 bit reserved
    exact step_of_reserved16 running has0 word0 bit ((reserved16_iff w0).1 reserved)
  case long =>
    intro s w0 w1 running has0 word0 bit has1 word1 reserved
    exact step_of_reserved32 running has0 word0 bit has1 word1 (reserved32_iff.1 reserved)
  case pair =>
    intro s ws i d running fetched decoded pair bad
    rw [step_running running fetched decoded]
    exact longJumpPair i d s pair bad

/-- Settles O6: class 11 has no opcode map for two words. -/
theorem noMiscellaneous32 : Obligations.NoMiscellaneous32 := by
  have refused : ∀ w0 w1 : Word, w0.extractLsb' 13 2 = 3 →
      (decode32 (fieldsOf w0) (fieldsOf w1)).toOption = none := by
    intro w0 w1 cls
    simp only [decode32_refuses, ← classBits_eq, classBits, cls, or_true]
  refine ⟨?decoder, ?step⟩
  case decoder =>
    intro w0 w1 rest bit cls
    rw [decode_long w1 rest bit, refused w0 w1 cls]
  case step =>
    intro s w0 w1 running bit cls has0 word0 has1 word1
    exact step_of_reserved32 running has0 word0 bit has1 word1 (refused w0 w1 cls)

/-- Settles O7: each word is decoded. -/
theorem decodeWords : Obligations.DecodeWords := by
  refine ⟨?_, ?_, ?_, ?_, ?_, ?_, ?_⟩ <;> decide

/-- Settles O11: the fetch takes one word or two, and the step executes what they decode to. -/
theorem stepRunsDecoded : Obligations.StepRunsDecoded :=
  ⟨fun _ _ _ running has word bit => step_running running (State.fetch_short has word bit),
    fun _ _ _ _ running has0 word0 bit has1 word1 =>
      step_running running (State.fetch_long has0 word0 bit has1 word1)⟩

end Machine

end Sys2Proof
end

section
/-!
PROOFS. What every step keeps: the invariant of the state, the registers that do not exist, and what the outputs and the
log of bus errors already hold. Reset, which the invariant starts from.
-/

namespace Sys2Proof.Machine

/-! What a sequence of writes keeps. -/

theorem State.putRegs_keeps {α : Type} {g : State → α} (hg : ∀ s n v, g (s.setReg n v) = g s) (s : State)
    (l : List (RegNum × Word)) : g (s.putRegs l) = g s := by
  induction l generalizing s with
  | nil => rfl
  | cons p l ih => exact (ih (s.setReg p.1 p.2)).trans (hg s p.1 p.2)

theorem State.putBytes_keeps {α : Type} {g : State → α} (hg : ∀ s a b, g (s.setDataByte a b) = g s) (s : State)
    (l : List (DataAddr × Byte)) : g (s.putBytes l) = g s := by
  induction l generalizing s with
  | nil => rfl
  | cons p l ih => exact (ih (s.setDataByte p.1 p.2)).trans (hg s p.1 p.2)

theorem State.reg_putRegs_of_ne {n : RegNum} (s : State) {l : List (RegNum × Word)} (h : ∀ p ∈ l, n ≠ p.1) :
    (s.putRegs l).reg n = s.reg n := by
  induction l generalizing s with
  | nil => rfl
  | cons p l ih =>
    obtain ⟨first, rest⟩ := List.forall_mem_cons.1 h
    exact (ih (s.setReg p.1 p.2) rest).trans ((s.reg_setReg p.1 n p.2).trans (if_neg first))

theorem State.putBytes_wf {size : Nat} {s : State} {l : List (DataAddr × Byte)} (hs : Memory.wf size s.dmem)
    (h : ∀ p ∈ l, p.1.toNat < size) : Memory.wf size (s.putBytes l).dmem := by
  induction l generalizing s with
  | nil => exact hs
  | cons p l ih =>
    obtain ⟨first, rest⟩ := List.forall_mem_cons.1 h
    exact ih (s := s.setDataByte p.1 p.2) (Memory.write_wf p.2 hs first) rest

/-! What a NOP keeps. -/

@[simp] theorem nopEffect_config (k : Nat) (d : RegNum) (s : State) : (nopEffect k d s).config = s.config := by
  unfold nopEffect
  split <;> rfl

@[simp] theorem nopEffect_dmem (k : Nat) (d : RegNum) (s : State) : (nopEffect k d s).dmem = s.dmem := by
  unfold nopEffect
  split <;> rfl

@[simp] theorem nopEffect_reg (k : Nat) (d : RegNum) (s : State) (n : RegNum) :
    (nopEffect k d s).reg n = s.reg n := by
  unfold nopEffect
  split <;> rfl

@[simp] theorem nopEffect_busErrors (k : Nat) (d : RegNum) (s : State) :
    (nopEffect k d s).busErrors = s.busErrors := by
  unfold nopEffect
  split <;> rfl

/-- A NOP writes at most one byte, to one of the outputs. -/
theorem nopEffect_outputs (k : Nat) (d : RegNum) (s : State) : ∃ o e, (nopEffect k d s).stdout = s.stdout ++ o ∧
    (nopEffect k d s).stderr = s.stderr ++ e ∧ o.length + e.length ≤ 1 := by
  have none : ∃ o e, s.stdout = s.stdout ++ o ∧ s.stderr = s.stderr ++ e ∧ o.length + e.length ≤ 1 :=
    ⟨[], [], (List.append_nil _).symm, (List.append_nil _).symm, Nat.zero_le _⟩
  unfold nopEffect
  split
  case h_4 => exact ⟨[_], [], rfl, (List.append_nil _).symm, Nat.le_refl _⟩
  case h_5 => exact ⟨[], [_], (List.append_nil _).symm, rfl, Nat.le_refl _⟩
  all_goals exact none

/-! The configuration and data memory. -/

theorem keptByWrites_config : KeptByWrites State.config := by
  constructor <;> intros <;> rfl

theorem step_config {s t : State} (h : step s = .next t) : t.config = s.config := by
  obtain ⟨-, ⟨a, -, rfl⟩ | ⟨ws, i, -, -, executed⟩⟩ := step_next h
  · rfl
  · exact keptByWrites_config.exec executed fun _ => nopEffect_config

/-- A store writes existing bytes only, so data memory stays in canonical form. -/
theorem exec_dmem_wf {i : Instr} {s t : State} (h : exec i s = .next t) (hs : Memory.wf s.config.dmemBytes s.dmem) :
    Memory.wf s.config.dmemBytes t.dmem := by
  cases exec_next h with
  | busError => exact hs
  | nop k d => rwa [nopEffect_dmem, State.advance_dmem]
  | writes regs bytes c pc _ _ existing =>
    have regsKeep := State.putRegs_keeps (g := State.dmem) (fun _ _ _ => rfl) (s.putBytes bytes) regs
    rw [State.goto_dmem, State.setCarry_dmem, regsKeep]
    exact State.putBytes_wf hs fun p hp => State.hasDataByte_true.1 (existing p hp)

theorem step_dmem_wf {s t : State} (h : step s = .next t) (hs : Memory.wf s.config.dmemBytes s.dmem) :
    Memory.wf s.config.dmemBytes t.dmem := by
  obtain ⟨-, ⟨a, -, rfl⟩ | ⟨ws, i, -, -, executed⟩⟩ := step_next h
  · exact hs
  · exact exec_dmem_wf executed hs

/-- Settles O9: the configuration and code memory stay, and data memory stays in canonical form. -/
theorem invKept : Obligations.InvKept := by
  rintro s t ⟨config, code, data⟩ h
  rw [State.Inv, step_config h, step_imem h]
  exact ⟨config, code, step_dmem_wf h data⟩

/-- Settles O8: both memories are empty. -/
theorem invReset : Obligations.InvReset :=
  ⟨by decide, Memory.nil_wf _, Memory.nil_wf _⟩

/-- Settles O10: the fields of the state after reset. -/
theorem resetState : Obligations.ResetState :=
  ⟨⟨rfl, rfl, rfl, rfl, fun _ => rfl⟩, fun _ => ⟨rfl, rfl, rfl, rfl, fun _ => rfl, fun _ => rfl, rfl⟩⟩

/-! Registers that do not exist. -/

theorem exec_reg_missing {i : Instr} {s t : State} {n : RegNum} (h : exec i s = .next t) (hn : s.hasReg n = false) :
    t.reg n = s.reg n := by
  cases exec_next h with
  | busError => rfl
  | nop k d => rw [nopEffect_reg, State.advance_reg]
  | writes regs bytes c pc _ present =>
    have other : ∀ p ∈ regs, n ≠ p.1 := by
      rintro p hp rfl
      exact absurd (hn.symm.trans (present p hp).2) Bool.noConfusion
    have bytesKeep := State.putBytes_keeps (g := fun u => u.reg n) (fun _ _ _ => rfl) s bytes
    rw [State.goto_reg, State.setCarry_reg, State.reg_putRegs_of_ne _ other]
    exact bytesKeep

/-- Settles O21: an instruction writes registers that it has checked; a bus error of the fetch writes none. -/
theorem missingRegistersKept : Obligations.MissingRegistersKept := by
  intro s t n h missing
  obtain ⟨-, ⟨a, -, rfl⟩ | ⟨ws, i, -, -, executed⟩⟩ := step_next h
  · rfl
  · exact exec_reg_missing executed (decide_eq_false (not_lt.2 missing))

/-! The outputs and the log of bus errors. -/

theorem writes_busErrors (s : State) (regs : List (RegNum × Word)) (bytes : List (DataAddr × Byte)) (c : Bool)
    (pc : CodeAddr) : ((((s.putBytes bytes).putRegs regs).setCarry c).goto pc).busErrors = s.busErrors :=
  (State.putRegs_keeps (g := State.busErrors) (fun _ _ _ => rfl) _ regs).trans
    (State.putBytes_keeps (fun _ _ _ => rfl) s bytes)

theorem exec_outputs_grow {i : Instr} {s t : State} (h : exec i s = .next t) :
    ∃ o e b, t.stdout = s.stdout ++ o ∧ t.stderr = s.stderr ++ e ∧ t.busErrors = s.busErrors ++ b ∧
      o.length + e.length + b.length ≤ 1 := by
  cases exec_next h with
  | busError x a =>
    exact ⟨[], [], [.data a], (List.append_nil _).symm, (List.append_nil _).symm, rfl, Nat.le_refl _⟩
  | nop k d =>
    obtain ⟨o, e, out, err, atMostOne⟩ := nopEffect_outputs k d (s.advance i.words)
    exact ⟨o, e, [], out, err, (nopEffect_busErrors k d _).trans (List.append_nil _).symm, atMostOne⟩
  | writes regs bytes c pc notNop =>
    have out := keptByWrites_stdout.exec_of_not_nop h notNop
    have err := keptByWrites_stderr.exec_of_not_nop h notNop
    exact ⟨[], [], [], out.trans (List.append_nil _).symm, err.trans (List.append_nil _).symm,
      (writes_busErrors s regs bytes c pc).trans (List.append_nil _).symm, Nat.zero_le _⟩

/-- Settles O27: a bus error adds to the log, a NOP to an output, and nothing else to any of them. -/
theorem outputsGrow : Obligations.OutputsGrow := by
  intro s t h
  obtain ⟨-, ⟨a, -, rfl⟩ | ⟨ws, i, -, -, executed⟩⟩ := step_next h
  · exact ⟨[], [], [.fetch a], (List.append_nil _).symm, (List.append_nil _).symm, rfl, Nat.le_refl _⟩
  · exact exec_outputs_grow executed

end Sys2Proof.Machine
end

section
/-!
PROOFS. The bus error (60_exceptions.md): its whole effect, whoever raises it; the fetch that raises it; and the run
that can do nothing else. Then the words that a loader has placed are fetched.
-/

namespace Sys2Proof.Machine

theorem State.tookBusError (s : State) (e : BusError) : s.TookBusError (s.takeBusError e) e :=
  ⟨s.becomes_goto busErrorVector, rfl, rfl, rfl, rfl⟩

/-- An execution that adds to the log has taken the bus error of a byte that it touches and that does not exist. -/
theorem exec_logs {i : Instr} {s t : State} (h : exec i s = .next t) (logged : t.busErrors ≠ s.busErrors) :
    ∃ x a, i.access = some x ∧ a ∈ x.width.touched (s.accessAddress x) ∧ s.hasDataByte a = false ∧
      t = s.takeBusError (.data a) := by
  cases exec_next h with
  | busError x a access touched missing => exact ⟨x, a, access, touched, missing, rfl⟩
  | nop k d => exact absurd (nopEffect_busErrors k d _) logged
  | writes regs bytes c pc => exact absurd (writes_busErrors s regs bytes c pc) logged

/-- Settles O15: data accesses and fetches take the one event. -/
theorem busErrorEntry : Obligations.BusErrorEntry := by
  intro s t h logged
  obtain ⟨-, ⟨a, -, rfl⟩ | ⟨ws, i, -, -, executed⟩⟩ := step_next h
  · exact ⟨_, s.tookBusError _⟩
  · obtain ⟨x, a, -, -, -, rfl⟩ := exec_logs executed logged
    exact ⟨_, s.tookBusError _⟩

/-! Fetches (R59, R283). -/

theorem State.hasCodeWord_false {s : State} {a : CodeAddr} :
    s.hasCodeWord a = false ↔ s.config.imemWords ≤ a.toNat := by
  rw [State.hasCodeWord, decide_eq_false_iff_not, not_lt]

theorem State.ifetch_missing {s : State} {a : CodeAddr} (h : s.hasCodeWord a = false) : s.ifetch a = .busError a := by
  simp only [State.ifetch, h, Bool.false_eq_true, if_false]

theorem State.fetch_first_missing {s : State} (h : s.hasCodeWord s.pc = false) : s.fetch = .busError s.pc := by
  simp only [State.fetch, State.ifetch_missing h]

theorem State.fetch_second_missing {s : State} {w0 : Word} (h : s.hasCodeWord s.pc = true)
    (h0 : s.codeWord s.pc = some w0) (hb : w0.getLsbD 15 = true) (h' : s.hasCodeWord (s.pc + 1) = false) :
    s.fetch = .busError (s.pc + 1) := by
  have second : s.nextPc 1 = s.pc + 1 := rfl
  simp only [State.fetch, State.ifetch_got h h0, isLong_eq, hb, if_true, second, State.ifetch_missing h']

theorem step_fetch_busError {s : State} {a : CodeAddr} (hr : s.run = .running) (hf : s.fetch = .busError a) :
    step s = .next (s.takeBusError (.fetch a)) := by
  simp only [step, hr, hf]

/-- Settles O14: the fetch answers the missing address, and the step takes its bus error. -/
theorem fetchBusError : Obligations.FetchBusError := by
  refine ⟨?first, ?second⟩
  case first =>
    intro s running missing
    have fetched := State.fetch_first_missing (State.hasCodeWord_false.2 missing)
    exact ⟨_, step_fetch_busError running fetched, s.tookBusError _⟩
  case second =>
    intro s w0 running has0 word0 bit missing
    have fetched := State.fetch_second_missing has0 word0 bit (State.hasCodeWord_false.2 missing)
    exact ⟨_, step_fetch_busError running fetched, s.tookBusError _⟩

/-! The double bus error (R290). -/

/-- `s` runs at the bus-error vector, where every fetch raises the bus error of `a`. -/
structure State.Stuck (s : State) (a : CodeAddr) : Prop where
  running : s.run = .running
  atVector : s.pc = busErrorVector
  missing : s.fetch = .busError a

theorem State.Stuck.step {s : State} {a : CodeAddr} (h : s.Stuck a) :
    Machine.step s = .next (s.takeBusError (.fetch a)) := step_fetch_busError h.running h.missing

/-- The fetch sees the pc and code memory, and the event leaves both as they were. -/
theorem State.fetch_takeBusError {s : State} (e : BusError) (h : s.pc = busErrorVector) :
    (s.takeBusError e).fetch = s.fetch := by
  have same : s = s.goto busErrorVector := by rw [← h]; rfl
  rw [same]
  rfl

theorem State.Stuck.takeBusError {s : State} {a : CodeAddr} (h : s.Stuck a) (e : BusError) :
    (s.takeBusError e).Stuck a :=
  ⟨h.running, rfl, (State.fetch_takeBusError e h.atVector).trans h.missing⟩

theorem State.Stuck.step_tookBusError {s : State} {a : CodeAddr} (h : s.Stuck a) :
    ∃ t, Machine.step s = .next t ∧ s.TookBusError t (.fetch a) ∧ t.pc = s.pc :=
  ⟨_, h.step, s.tookBusError _, h.atVector.symm⟩

theorem State.Stuck.run {a : CodeAddr} (k : Nat) {s : State} (h : s.Stuck a) :
    ∃ t, Host.Core.run Sys2Proof.core k s = .next t ∧ s.Becomes t [] s.carry busErrorVector [] ∧ t.run = .running ∧
      t.stdout = s.stdout ∧ t.stderr = s.stderr ∧ t.busErrors = s.busErrors ++ List.replicate k (.fetch a) := by
  induction k generalizing s with
  | zero =>
    have same : s.goto busErrorVector = s := by rw [← h.atVector]; rfl
    exact ⟨s, rfl, same ▸ s.becomes_goto busErrorVector, h.running, rfl, rfl, (List.append_nil _).symm⟩
  | succ k ih =>
    obtain ⟨t, ran, becomes, running, out, err, log⟩ := ih (h.takeBusError (.fetch a))
    have first : Sys2Proof.core.step s = .next (s.takeBusError (.fetch a)) := h.step
    refine ⟨t, ?_, becomes, running, out, err, ?_⟩
    · simpa only [Host.Core.run, first] using ran
    · rw [log, State.takeBusError_busErrors, List.append_assoc, List.replicate_succ, List.singleton_append]

theorem stuck_of_no_word {s : State} (hr : s.run = .running) (hpc : s.pc = 0x000002) (h : s.config.imemWords ≤ 2) :
    s.Stuck 0x000002 := by
  have missing : s.hasCodeWord s.pc = false := by
    rw [hpc]
    exact State.hasCodeWord_false.2 h
  exact ⟨hr, hpc, (State.fetch_first_missing missing).trans (congrArg Fetched.busError hpc)⟩

theorem stuck_of_one_word {s : State} {w0 : Word} (hr : s.run = .running) (hpc : s.pc = 0x000002)
    (h : s.config.imemWords = 3) (h0 : s.codeWord 0x000002 = some w0) (hb : w0.getLsbD 15 = true) :
    s.Stuck 0x000003 := by
  have present : s.hasCodeWord s.pc = true := by
    rw [hpc]
    exact decide_eq_true (h.symm ▸ by decide)
  have missing : s.hasCodeWord (s.pc + 1) = false := by
    rw [hpc]
    exact State.hasCodeWord_false.2 (h.symm ▸ by decide)
  have fetched := State.fetch_second_missing present (hpc ▸ h0) hb missing
  exact ⟨hr, hpc, fetched.trans (by rw [hpc]; rfl)⟩

/-- Settles O16: in both cases the machine is stuck at the vector, in one step and in any number of steps. -/
theorem doubleBusError : Obligations.DoubleBusError :=
  ⟨fun _ running pc words => (stuck_of_no_word running pc words).step_tookBusError,
    fun k _ running pc words => (stuck_of_no_word running pc words).run k,
    fun _ _ running pc words word bit => (stuck_of_one_word running pc words word bit).step_tookBusError,
    fun k _ _ running pc words word bit => (stuck_of_one_word running pc words word bit).run k⟩

/-! A placed table word (entry 20). -/

theorem decode_of_decodeTableWord {nbits w : Nat} {i : Instr} (h : decodeTableWord nbits w = some i) :
    decode (tableWords nbits w) = .ok i := by
  unfold decodeTableWord at h
  cases hd : decode (tableWords nbits w) with
  | error r => rw [hd] at h; cases h
  | ok j => rw [hd] at h; cases h; rfl

/-- Two existing words at the pc are fetched as far as the decoder reads them. -/
theorem step_of_decode_pair {s : State} {w0 w1 : Word} {i : Instr} (hr : s.run = .running)
    (h : s.hasCodeWord s.pc = true) (h0 : s.codeWord s.pc = some w0) (h' : s.hasCodeWord (s.pc + 1) = true)
    (h1 : s.codeWord (s.pc + 1) = some w1) (hd : decode [w0, w1] = .ok i) : step s = exec i s := by
  cases hb : w0.getLsbD 15 with
  | false =>
    rw [decode_short [w1] hb] at hd
    exact step_running hr (State.fetch_short h h0 hb) ((decode_short [] hb).trans hd)
  | true => exact step_running hr (State.fetch_long h h0 hb h' h1) hd

theorem State.withFetchWord_eq (s : State) (nbits w : Nat) : s.withFetchWord nbits w =
    ((s.loadCodeWord s.pc (BitVec.ofNat 16 (w % 2 ^ nbits))).loadCodeWord (s.pc + 1)
      (BitVec.ofNat 16 (w % 2 ^ nbits / 2 ^ 16))).setRun .running := rfl

/-- Settles O12: the two loads do not meet, for the next address is never the pc, and the decoder reads the placed
words. -/
theorem placedWordRuns : Obligations.PlacedWordRuns := by
  intro s nbits w i decoded has0 has1
  have apart : s.pc ≠ s.pc + 1 := by simp
  rw [State.withFetchWord_eq]
  generalize hw0 : BitVec.ofNat 16 (w % 2 ^ nbits) = w0
  generalize hw1 : BitVec.ofNat 16 (w % 2 ^ nbits / 2 ^ 16) = w1
  generalize ht : ((s.loadCodeWord s.pc w0).loadCodeWord (s.pc + 1) w1).setRun .running = t
  have reads : ∀ a, t.codeWord a = if a = s.pc + 1 then some w1 else if a = s.pc then some w0 else s.codeWord a := by
    intro a
    rw [← ht, State.setRun_codeWord, State.codeWord_loadCodeWord, State.codeWord_loadCodeWord]
  have word0 : t.codeWord s.pc = some w0 := by rw [reads, if_neg apart, if_pos rfl]
  have word1 : t.codeWord (s.pc + 1) = some w1 := by rw [reads, if_pos rfl]
  have words : decode [w0, w1] = .ok i := by
    rw [← hw0, ← hw1]
    exact decode_of_decodeTableWord decoded
  subst ht
  refine ⟨_, rfl, step_of_decode_pair rfl has0 word0 has1 word1 words, word0, word1, ?others, rfl, rfl, rfl, rfl, rfl,
    rfl, rfl, rfl, rfl, rfl⟩
  case others =>
    intro a notFirst notSecond
    rw [reads, if_neg notSecond, if_neg notFirst]

end Sys2Proof.Machine
end

section
/-!
PROOFS. The ALU instructions (40_alu16.md, 44_alu32.md): results and carry as integer arithmetic, with everything else
unchanged.
-/

namespace Sys2Proof.Machine

/-! The shapes complete. -/

section
variable {s : State} {len : Nat} {d a b : RegNum}

theorem aluRRCarry_completes (f : Word → Word → Bool → Word) (g : Word → Word → Bool → Bool)
    (h : ∀ n ∈ [d, a, b], s.hasReg n = true) :
    ∃ t, aluRRCarry len f g d a b s = .next t ∧
      s.Becomes t [(d, f (s.reg a) (s.reg b) s.carry)] (g (s.reg a) (s.reg b) s.carry) (s.nextPc len) [] ∧
      s.Quiet t :=
  ⟨_, checkRegs_present _ h, s.becomes_setReg .., s.quiet_setReg ..⟩

/-- An instruction that leaves carry alone writes the old carry back. -/
theorem aluRR_completes (f : Word → Word → Word) (h : ∀ n ∈ [d, a, b], s.hasReg n = true) :
    ∃ t, aluRR len f d a b s = .next t ∧
      s.Becomes t [(d, f (s.reg a) (s.reg b))] s.carry (s.nextPc len) [] ∧ s.Quiet t :=
  aluRRCarry_completes (fun x y _ => f x y) (fun _ _ c => c) h

theorem aluConst_completes (v : Word) (h : ∀ n ∈ [d], s.hasReg n = true) :
    ∃ t, aluConst len v d s = .next t ∧ s.Becomes t [(d, v)] s.carry (s.nextPc len) [] ∧ s.Quiet t :=
  ⟨_, checkRegs_present _ h, s.becomes_setReg .., s.quiet_setReg ..⟩

end

/-! Sums and differences as integer arithmetic (R121, R122, R201, R202). -/

theorem addResult_eq (x y : Word) (c : Bool) :
    addResult x y c = BitVec.ofInt 16 (x.toNat + y.toNat + (if c then 1 else 0)) := by
  rw [addResult, exactSum, ← BitVec.ofInt_natCast]
  cases c <;> simp

theorem subResult_eq (x y : Word) (c : Bool) :
    subResult x y c = BitVec.ofInt 16 (x.toNat - y.toNat - (if c then 1 else 0)) := by
  rw [subResult, exactDifference]
  cases c <;> simp

/-- Without a carry in. -/
theorem addResult_eq_ofInt (x y : Word) : addResult x y false = BitVec.ofInt 16 (x.toNat + y.toNat) :=
  (addResult_eq x y false).trans (congrArg _ (Int.add_zero _))

theorem addCarry_eq_decide (x y : Word) : addCarry x y false = decide ((65536 : Int) ≤ x.toNat + y.toNat) := by
  simp [addCarry_eq]

/-- Without a borrow in. -/
theorem subResult_eq_ofInt (x y : Word) : subResult x y false = BitVec.ofInt 16 (x.toNat - y.toNat) :=
  (subResult_eq x y false).trans (congrArg _ (Int.sub_zero _))

theorem subCarry_eq_decide (x y : Word) : subCarry x y false = decide ((x.toNat : Int) < y.toNat) := by
  simp [subCarry_eq]

theorem zext16_eq {n : Nat} (imm : BitVec n) : zext16 imm = BitVec.ofNat 16 imm.toNat := by
  rw [zext16, BitVec.ofNat_toNat]

/-! Each operation on two registers. -/

section
variable {s : State} {len : Nat} {d a b : RegNum} (h : ∀ n ∈ [d, a, b], s.hasReg n = true)
include h

theorem addc_completes :
    ∃ t, aluRRCarry len addResult addCarry d a b s = .next t ∧
      s.Becomes t [(d, BitVec.ofInt 16 (s.int a + s.int b + (if s.carry then 1 else 0)))]
        (decide (65536 ≤ s.int a + s.int b + (if s.carry then 1 else 0))) (s.nextPc len) [] ∧ s.Quiet t := by
  rw [State.int, State.int, ← addResult_eq, ← addCarry_eq]
  exact aluRRCarry_completes _ _ h

theorem subc_completes :
    ∃ t, aluRRCarry len subResult subCarry d a b s = .next t ∧
      s.Becomes t [(d, BitVec.ofInt 16 (s.int a - s.int b - (if s.carry then 1 else 0)))]
        (decide (s.int a < s.int b + (if s.carry then 1 else 0))) (s.nextPc len) [] ∧ s.Quiet t := by
  rw [State.int, State.int, ← subResult_eq, ← subCarry_eq]
  exact aluRRCarry_completes _ _ h

theorem add_completes :
    ∃ t, aluRRCarry len (fun x y _ => addResult x y false) (fun x y _ => addCarry x y false) d a b s = .next t ∧
      s.Becomes t [(d, BitVec.ofInt 16 (s.int a + s.int b))] (decide (65536 ≤ s.int a + s.int b)) (s.nextPc len) [] ∧
      s.Quiet t := by
  rw [State.int, State.int, ← addResult_eq_ofInt, ← addCarry_eq_decide]
  exact aluRRCarry_completes _ _ h

theorem sub_completes :
    ∃ t, aluRRCarry len (fun x y _ => subResult x y false) (fun x y _ => subCarry x y false) d a b s = .next t ∧
      s.Becomes t [(d, BitVec.ofInt 16 (s.int a - s.int b))] (decide (s.int a < s.int b)) (s.nextPc len) [] ∧
      s.Quiet t := by
  rw [State.int, State.int, ← subResult_eq_ofInt, ← subCarry_eq_decide]
  exact aluRRCarry_completes _ _ h

theorem asr_completes :
    ∃ t, aluRRCarry len (fun x y c => asrResult x y.toNat c) (fun _ _ _ => asrCarry) d a b s = .next t ∧
      s.Becomes t [(d, BitVec.ofInt 16 ((s.int a + (if s.carry then 65536 else 0)) / 2 ^ (s.reg b).toNat))] false
        (s.nextPc len) [] ∧ s.Quiet t := by
  rw [State.int, ← asrResult_eq]
  exact aluRRCarry_completes _ _ h

theorem lsl_completes :
    ∃ t, aluRR len (fun x y => lslResult x y.toNat) d a b s = .next t ∧
      s.Becomes t [(d, BitVec.ofInt 16 (s.int a * 2 ^ (s.reg b).toNat))] s.carry (s.nextPc len) [] ∧ s.Quiet t := by
  rw [State.int, ← lslResult_eq]
  exact aluRR_completes _ h

theorem lsr_completes :
    ∃ t, aluRR len (fun x y => lsrResult x y.toNat) d a b s = .next t ∧
      s.Becomes t [(d, BitVec.ofInt 16 (s.int a / 2 ^ (s.reg b).toNat))] s.carry (s.nextPc len) [] ∧ s.Quiet t := by
  rw [State.int, ← lsrResult_eq]
  exact aluRR_completes _ h

end

/-! Each operation on a register and a constant of any width up to a word's. -/

section
variable {s : State} {len k : Nat} {d a : RegNum} (imm : BitVec k) (h : ∀ n ∈ [d, a], s.hasReg n = true)
include h

theorem addi_completes (hk : k ≤ 16) :
    ∃ t, aluRCarry len (fun x _ => addResult x (zext16 imm) false) (fun x _ => addCarry x (zext16 imm) false) d a s
        = .next t ∧
      s.Becomes t [(d, BitVec.ofInt 16 (s.int a + imm.toNat))] (decide (65536 ≤ s.int a + imm.toNat))
        (s.nextPc len) [] ∧ s.Quiet t := by
  rw [State.int, ← zext16_toNat hk, ← addResult_eq_ofInt, ← addCarry_eq_decide]
  exact aluRCarry_completes _ _ h

theorem subi_completes (hk : k ≤ 16) :
    ∃ t, aluRCarry len (fun x _ => subResult x (zext16 imm) false) (fun x _ => subCarry x (zext16 imm) false) d a s
        = .next t ∧
      s.Becomes t [(d, BitVec.ofInt 16 (s.int a - imm.toNat))] (decide (s.int a < imm.toNat))
        (s.nextPc len) [] ∧ s.Quiet t := by
  rw [State.int, ← zext16_toNat hk, ← subResult_eq_ofInt, ← subCarry_eq_decide]
  exact aluRCarry_completes _ _ h

/-- A bitwise operation with a zero-extended constant. -/
theorem logici_completes (op : Word → Word → Word) :
    ∃ t, aluR len (fun x => op x (zext16 imm)) d a s = .next t ∧
      s.Becomes t [(d, op (s.reg a) (BitVec.ofNat 16 imm.toNat))] s.carry (s.nextPc len) [] ∧ s.Quiet t := by
  rw [← zext16_eq]
  exact aluR_completes _ h

end

theorem movi_completes {s : State} {len k : Nat} {d : RegNum} (imm : BitVec k) (h : ∀ n ∈ [d], s.hasReg n = true) :
    ∃ t, aluConst len (zext16 imm) d s = .next t ∧
      s.Becomes t [(d, BitVec.ofNat 16 imm.toNat)] s.carry (s.nextPc len) [] ∧ s.Quiet t :=
  zext16_eq imm ▸ aluConst_completes _ h

/-- Settles O32: the 16-bit forms, then the 32-bit forms, each as its shape. -/
theorem addSub : Obligations.AddSub :=
  ⟨fun _ _ _ _ h => add_completes h, fun _ _ _ _ h => sub_completes h,
    fun _ _ _ _ h => add_completes h, fun _ _ _ _ h => sub_completes h⟩

/-- Settles O33. -/
theorem addcSubc : Obligations.AddcSubc :=
  ⟨fun _ _ _ _ h => addc_completes h, fun _ _ _ _ h => subc_completes h⟩

/-- Settles O34: a constant of 3 bits and one of 10 bits. -/
theorem addiSubi : Obligations.AddiSubi :=
  ⟨fun _ _ _ imm h => addi_completes imm h (by decide), fun _ _ _ imm h => subi_completes imm h (by decide),
    fun _ _ _ imm h => addi_completes imm h (by decide), fun _ _ _ imm h => subi_completes imm h (by decide)⟩

/-- Settles O35. -/
theorem logicResults : Obligations.LogicResults :=
  ⟨fun _ _ _ _ h => aluRR_completes _ h, fun _ _ _ _ h => aluRR_completes _ h,
    fun _ _ _ _ h => aluRR_completes _ h, fun _ _ _ _ h => aluRR_completes _ h,
    fun _ _ _ _ h => aluRR_completes _ h, fun _ _ _ _ h => aluRR_completes _ h,
    fun _ _ _ imm h => logici_completes imm h (· &&& ·), fun _ _ _ imm h => logici_completes imm h (· ||| ·),
    fun _ _ _ imm h => logici_completes imm h (· ^^^ ·)⟩

/-- Settles O36. -/
theorem registerShifts : Obligations.RegisterShifts :=
  ⟨fun _ _ _ _ h => asr_completes h, fun _ _ _ _ h => lsl_completes h, fun _ _ _ _ h => lsr_completes h,
    fun _ _ _ _ h => asr_completes h, fun _ _ _ _ h => lsl_completes h, fun _ _ _ _ h => lsr_completes h⟩

/-- Settles O38. -/
theorem moveResults : Obligations.MoveResults :=
  ⟨fun _ _ _ h => aluR_completes (fun x => x) h, fun _ _ imm h => movi_completes imm h,
    fun _ _ _ h => aluR_completes (fun x => x) h, fun _ _ imm h => movi_completes imm h⟩

end Sys2Proof.Machine
end

section
/-!
PROOFS. NOP with its side effects (R292 to R298), in both lengths: each effect is one update of the state whose pc is
already advanced.
-/

namespace Sys2Proof.Machine

section
variable {s : State} {len : Nat} {d : RegNum} (h : ∀ n ∈ [d], s.hasReg n = true)
include h

theorem nop_halts : ∃ t, nopWithEffect len d 0 s = .next t ∧
    s.Becomes t [] s.carry (s.nextPc len) [] ∧ t.run = .halted ∧
      t.stdout = s.stdout ∧ t.stderr = s.stderr ∧ t.busErrors = s.busErrors :=
  ⟨_, checkRegs_present _ h, s.becomes_goto _, rfl, rfl, rfl, rfl⟩

theorem nop_exits : ∃ t, nopWithEffect len d 2 s = .next t ∧
    s.Becomes t [] s.carry (s.nextPc len) [] ∧ t.run = .exited (s.reg d) ∧
      t.stdout = s.stdout ∧ t.stderr = s.stderr ∧ t.busErrors = s.busErrors :=
  ⟨_, checkRegs_present _ h, s.becomes_goto _, rfl, rfl, rfl, rfl⟩

theorem nop_writes_stdout : ∃ t, nopWithEffect len d 3 s = .next t ∧
    s.Becomes t [] s.carry (s.nextPc len) [] ∧ t.run = s.run ∧
      t.stdout = s.stdout ++ [(s.reg d).extractLsb' 0 8] ∧ t.stderr = s.stderr ∧ t.busErrors = s.busErrors :=
  ⟨_, checkRegs_present _ h, s.becomes_goto _, rfl, rfl, rfl, rfl⟩

theorem nop_writes_stderr : ∃ t, nopWithEffect len d 4 s = .next t ∧
    s.Becomes t [] s.carry (s.nextPc len) [] ∧ t.run = s.run ∧
      t.stdout = s.stdout ∧ t.stderr = s.stderr ++ [(s.reg d).extractLsb' 0 8] ∧ t.busErrors = s.busErrors :=
  ⟨_, checkRegs_present _ h, s.becomes_goto _, rfl, rfl, rfl, rfl⟩

end

/-- From the constant 5 on there is no side effect. -/
theorem nopWithEffect_eq_nopPlain {s : State} {len k : Nat} {d : RegNum} (h : 5 ≤ k) :
    nopWithEffect len d k s = nopPlain len d s := by
  obtain ⟨n, rfl⟩ := Nat.exists_eq_add_of_le' h
  rfl

/-- Settles O39: the constant selects the effect. -/
theorem nop16 : Obligations.Nop16 := by
  refine ⟨fun _ _ h => nop_halts h, fun _ _ h => nop_exits h, fun _ _ h => nop_writes_stdout h,
    fun _ _ h => nop_writes_stderr h, fun s d imm h large => ?_⟩
  change ∃ t, nopWithEffect 1 (regOf d) imm.toNat s = _ ∧ _
  rw [nopWithEffect_eq_nopPlain large]
  exact nopPlain_completes 1 h

/-! The 32-bit NOP under each setting of NOP32_EFFECTS (R298). -/

section
variable {s : State} {d : RegNum} {imm : BitVec 12}

theorem exec_nop32_of_no_effect (h : imm.toNat = 1 ∨ 5 ≤ imm.toNat) : exec (.nop32 d imm) s = nopPlain 2 d s :=
  if_pos h

theorem exec_nop32_of_none (h : s.config.nop32 = .none) : exec (.nop32 d imm) s = nopPlain 2 d s := by
  change execNop32 d imm s = _
  simp only [execNop32, h, ite_self]

theorem exec_nop32_of_as16 (h : s.config.nop32 = .as16) (hi : ¬ (imm.toNat = 1 ∨ 5 ≤ imm.toNat)) :
    exec (.nop32 d imm) s = nopWithEffect 2 d imm.toNat s := by
  change execNop32 d imm s = _
  rw [execNop32, if_neg hi, h]

end

/-- Settles O41: constants without an effect, then the settings none, as16 and refuse. -/
theorem nop32 : Obligations.Nop32 := by
  refine ⟨fun s d imm h noEffect => ?_, fun s d imm h none => ?_, fun s d h as16 => ?_, fun s d h as16 => ?_,
    fun s d h as16 => ?_, fun s d h as16 => ?_, fun s d imm refuse notOne small => ?_⟩
  · rw [exec_nop32_of_no_effect noEffect]
    exact nopPlain_completes 2 h
  · rw [exec_nop32_of_none none]
    exact nopPlain_completes 2 h
  · rw [exec_nop32_of_as16 as16 (by decide)]
    exact nop_halts h
  · rw [exec_nop32_of_as16 as16 (by decide)]
    exact nop_exits h
  · rw [exec_nop32_of_as16 as16 (by decide)]
    exact nop_writes_stdout h
  · rw [exec_nop32_of_as16 as16 (by decide)]
    exact nop_writes_stderr h
  · exact execNop32_refused refuse (by omega)

end Sys2Proof.Machine
end

section
/-!
PROOFS. Branches and jumps (42_branch16.md, 46_branch32.md): the pc each leaves, the link, and nothing else.
-/

namespace Sys2Proof.Machine

/-! Targets and links. -/

theorem State.link_eq (s : State) (len : Nat) : s.link len = BitVec.ofNat 16 (s.nextPc len).toNat := by
  rw [State.link, BitVec.ofNat_toNat]

theorem zext24_eq (x : Word) : x.setWidth 24 = BitVec.ofNat 24 x.toNat := (BitVec.ofNat_toNat _ _).symm

/-- The register pair as an integer: the 24 bits of the target drop the top 8 bits of R(d+1) (R246). -/
theorem State.pair_eq (s : State) (d : RegNum) :
    s.pair d = BitVec.ofNat 24 ((s.reg d).toNat + 65536 * (s.reg (d + 1)).toNat) := by
  apply BitVec.eq_of_toNat_eq
  rw [State.pair, BitVec.toNat_append, ← Nat.shiftLeft_add_eq_or_of_lt (s.reg d).isLt, Nat.shiftLeft_eq,
    toNat_lowByte, BitVec.toNat_ofNat]
  omega

/-! Comparisons (R176). -/

theorem State.signed_eq (s : State) (n : RegNum) : s.signed n = (s.reg n).toInt := by
  have toInt := BitVec.toInt_eq_toNat_cond (s.reg n)
  simp only [Nat.reducePow, Nat.cast_ofNat] at toInt
  unfold State.signed State.int
  rw [toInt]
  by_cases h : (s.reg n).toNat < 32768
  · rw [if_pos (by omega), if_pos (by omega)]
  · rw [if_neg (by omega), if_neg (by omega)]

section
variable (s : State) (a b : RegNum)

theorem holds_eq : Cond.eq.holds (s.reg a) (s.reg b) = decide (s.reg a = s.reg b) := rfl

theorem holds_ne : Cond.ne.holds (s.reg a) (s.reg b) = decide (s.reg a ≠ s.reg b) := rfl

theorem holds_lts : Cond.lts.holds (s.reg a) (s.reg b) = decide (s.signed a < s.signed b) := by
  rw [s.signed_eq, s.signed_eq, Cond.holds]

theorem holds_les : Cond.les.holds (s.reg a) (s.reg b) = decide (s.signed a ≤ s.signed b) := by
  rw [s.signed_eq, s.signed_eq, Cond.holds]

theorem holds_ltu : Cond.ltu.holds (s.reg a) (s.reg b) = decide (s.int a < s.int b) := by
  rw [Cond.holds, decide_eq_decide, Int.ofNat_lt]

theorem holds_leu : Cond.leu.holds (s.reg a) (s.reg b) = decide (s.int a ≤ s.int b) := by
  rw [Cond.holds, decide_eq_decide, Int.ofNat_le]

end

/-- A conditional transfer is a move of the pc to one of two addresses. -/
theorem State.choose_eq {s : State} {len : Nat} {c : Cond} {a b : RegNum} {target : CodeAddr} {p : Prop} [Decidable p]
    (hc : c.holds (s.reg a) (s.reg b) = decide p) :
    s.choose len c a b target = s.goto (if p then target else s.nextPc len) := by
  unfold State.choose
  by_cases h : p <;> simp [hc, h, State.advance]

/-! The shapes complete. -/

theorem goto_completes {s : State} {r : Result} {pc : CodeAddr} (h : r = .next (s.goto pc)) :
    ∃ t, r = .next t ∧ s.Becomes t [] s.carry pc [] ∧ s.Quiet t :=
  ⟨_, h, s.becomes_goto pc, s.quiet_goto pc⟩

section
variable {s : State} {len : Nat} {d b : RegNum}

theorem branch_completes (s : State) (off : CodeAddr) :
    ∃ t, branch off s = .next t ∧ s.Becomes t [] s.carry (s.pc + off) [] ∧ s.Quiet t := goto_completes rfl

theorem branchLink_completes (off : CodeAddr) (h : ∀ n ∈ [b], s.hasReg n = true) :
    ∃ t, branchLink len off b s = .next t ∧
      s.Becomes t [(b, BitVec.ofNat 16 (s.nextPc len).toNat)] s.carry (s.pc + off) [] ∧ s.Quiet t :=
  s.link_eq len ▸ ⟨_, checkRegs_present _ h, s.becomes_setReg .., s.quiet_setReg ..⟩

theorem jump_completes (h : ∀ n ∈ [d], s.hasReg n = true) :
    ∃ t, jump d s = .next t ∧ s.Becomes t [] s.carry (BitVec.ofNat 24 (s.reg d).toNat) [] ∧ s.Quiet t :=
  zext24_eq (s.reg d) ▸ goto_completes (checkRegs_present _ h)

theorem jumpLink_completes (h : ∀ n ∈ [d, b], s.hasReg n = true) (apart : d ≠ b) :
    ∃ t, jumpLink len d b s = .next t ∧
      s.Becomes t [(b, BitVec.ofNat 16 (s.nextPc len).toNat)] s.carry (BitVec.ofNat 24 (s.reg d).toNat) [] ∧
      s.Quiet t := by
  rw [← zext24_eq, ← s.link_eq]
  exact ⟨_, (checkRegs_present _ h).trans (if_neg apart), s.becomes_setReg .., s.quiet_setReg ..⟩

theorem jumpLong_completes (hp : s.HasPair d) :
    ∃ t, jumpLong d s = .next t ∧
      s.Becomes t [] s.carry (BitVec.ofNat 24 ((s.reg d).toNat + 65536 * (s.reg (d + 1)).toNat)) [] ∧ s.Quiet t :=
  s.pair_eq d ▸ goto_completes (checkPair_good _ hp)

theorem jumpLongLink_completes (h : ∀ n ∈ [d, b], s.hasReg n = true) (hp : s.HasPair d) (hd : b ≠ d)
    (hd' : b ≠ d + 1) :
    ∃ t, jumpLongLink len d b s = .next t ∧
      s.Becomes t [(b, BitVec.ofNat 16 (s.nextPc len).toNat)] s.carry
        (BitVec.ofNat 24 ((s.reg d).toNat + 65536 * (s.reg (d + 1)).toNat)) [] ∧ s.Quiet t := by
  rw [← s.pair_eq, ← s.link_eq]
  have apart : ¬ (b = d ∨ b = d + 1) := not_or.2 ⟨hd, hd'⟩
  exact ⟨_, (checkPair_checkRegs _ hp).trans ((checkRegs_present _ h).trans (if_neg apart)), s.becomes_setReg ..,
    s.quiet_setReg ..⟩

end

section
variable {s : State} {len : Nat} {c : Cond} {d a b : RegNum} {p : Prop} [Decidable p]

theorem branchIf_completes (off : CodeAddr) (hc : c.holds (s.reg a) (s.reg b) = decide p)
    (h : ∀ n ∈ [a, b], s.hasReg n = true) :
    ∃ t, branchIf len c off a b s = .next t ∧
      s.Becomes t [] s.carry (if p then s.pc + off else s.nextPc len) [] ∧ s.Quiet t :=
  goto_completes ((checkRegs_present _ h).trans (congrArg _ (State.choose_eq hc)))

theorem jumpIf_completes (hc : c.holds (s.reg a) (s.reg b) = decide p) (h : ∀ n ∈ [d, a, b], s.hasReg n = true) :
    ∃ t, jumpIf len c d a b s = .next t ∧
      s.Becomes t [] s.carry (if p then BitVec.ofNat 24 (s.reg d).toNat else s.nextPc len) [] ∧ s.Quiet t :=
  zext24_eq (s.reg d) ▸ goto_completes ((checkRegs_present _ h).trans (congrArg _ (State.choose_eq hc)))

theorem jumpLongIf_completes (hc : c.holds (s.reg a) (s.reg b) = decide p) (h : ∀ n ∈ [d, a, b], s.hasReg n = true)
    (hp : s.HasPair d) :
    ∃ t, jumpLongIf len c d a b s = .next t ∧
      s.Becomes t [] s.carry
        (if p then BitVec.ofNat 24 ((s.reg d).toNat + 65536 * (s.reg (d + 1)).toNat) else s.nextPc len) [] ∧
      s.Quiet t := by
  rw [← s.pair_eq]
  have checked := (checkPair_checkRegs (.next (s.choose len c a b (s.pair d))) hp).trans (checkRegs_present _ h)
  exact goto_completes (checked.trans (congrArg _ (State.choose_eq hc)))

end

/-- Settles O48. -/
theorem braBal : Obligations.BraBal :=
  ⟨fun s off => branch_completes s (sext24 off), fun _ off _ h => branchLink_completes (sext24 off) h,
    fun s off => branch_completes s (sext24 off), fun _ off _ h => branchLink_completes (sext24 off) h⟩

/-- Settles O49: one shape, by the comparison. -/
theorem conditionalBranches : Obligations.ConditionalBranches :=
  ⟨fun s off _ _ => branchIf_completes (sext24 off) (holds_eq s _ _),
    fun s off _ _ => branchIf_completes (sext24 off) (holds_ne s _ _),
    fun s off _ _ => branchIf_completes (sext24 off) (holds_lts s _ _),
    fun s off _ _ => branchIf_completes (sext24 off) (holds_les s _ _),
    fun s off _ _ => branchIf_completes (sext24 off) (holds_ltu s _ _),
    fun s off _ _ => branchIf_completes (sext24 off) (holds_leu s _ _),
    fun s off _ _ => branchIf_completes (sext24 off) (holds_eq s _ _),
    fun s off _ _ => branchIf_completes (sext24 off) (holds_ne s _ _),
    fun s off _ _ => branchIf_completes (sext24 off) (holds_lts s _ _),
    fun s off _ _ => branchIf_completes (sext24 off) (holds_les s _ _),
    fun s off _ _ => branchIf_completes (sext24 off) (holds_ltu s _ _),
    fun s off _ _ => branchIf_completes (sext24 off) (holds_leu s _ _)⟩

/-- Settles O50: RTE is a jump, for nothing was saved. -/
theorem jmpRte : Obligations.JmpRte :=
  ⟨fun _ _ h => jump_completes h, fun _ _ h => jump_completes h, fun _ _ h => jump_completes h⟩

/-- Settles O51. -/
theorem jumpAndLink : Obligations.JumpAndLink :=
  ⟨fun _ _ _ h apart => jumpLink_completes h apart, fun _ _ _ h apart => jumpLink_completes h apart⟩

/-- Settles O52: one shape, by the comparison. -/
theorem conditionalJumps : Obligations.ConditionalJumps :=
  ⟨fun s _ _ _ => jumpIf_completes (holds_eq s _ _), fun s _ _ _ => jumpIf_completes (holds_ne s _ _),
    fun s _ _ _ => jumpIf_completes (holds_lts s _ _), fun s _ _ _ => jumpIf_completes (holds_les s _ _),
    fun s _ _ _ => jumpIf_completes (holds_ltu s _ _), fun s _ _ _ => jumpIf_completes (holds_leu s _ _),
    fun s _ _ _ => jumpIf_completes (holds_eq s _ _), fun s _ _ _ => jumpIf_completes (holds_ne s _ _),
    fun s _ _ _ => jumpIf_completes (holds_lts s _ _), fun s _ _ _ => jumpIf_completes (holds_les s _ _),
    fun s _ _ _ => jumpIf_completes (holds_ltu s _ _), fun s _ _ _ => jumpIf_completes (holds_leu s _ _)⟩

/-- Settles O53. -/
theorem longJumps : Obligations.LongJumps :=
  ⟨fun _ _ hp => jumpLong_completes hp, fun _ _ _ h hp hd hd' => jumpLongLink_completes h hp hd hd'⟩

/-- Settles O54: one shape, by the comparison. -/
theorem conditionalLongJumps : Obligations.ConditionalLongJumps :=
  ⟨fun s _ _ _ => jumpLongIf_completes (holds_eq s _ _), fun s _ _ _ => jumpLongIf_completes (holds_ne s _ _),
    fun s _ _ _ => jumpLongIf_completes (holds_lts s _ _), fun s _ _ _ => jumpLongIf_completes (holds_les s _ _),
    fun s _ _ _ => jumpLongIf_completes (holds_ltu s _ _), fun s _ _ _ => jumpLongIf_completes (holds_leu s _ _)⟩

end Sys2Proof.Machine
end

section
/-!
PROOFS. Data memory accesses (20_memory.md, 41_loadstore16.md, 45_loadstore32.md): the effective address, what a write
stores, and what loads and stores leave behind when they complete.
-/

namespace Sys2Proof.Machine

/-! Effective addresses (R54). -/

/-- A 16-bit word and the integer it stands for as a two's-complement number agree modulo 2^16. -/
theorem toNat_add_word (x y : Word) : ((x + y).toNat : Int) = (x.toNat + y.toInt) % 65536 := by
  rw [BitVec.toNat_add, BitVec.toInt_eq_toNat_cond]
  split <;> omega

theorem toNat_sub_word (x y : Word) : ((x - y).toNat : Int) = (x.toNat - y.toInt) % 65536 := by
  rw [BitVec.toNat_sub, BitVec.toInt_eq_toNat_cond]
  split <;> omega

theorem toInt_sext16 {n : Nat} (hn : n ≤ 16) (off : BitVec n) : (sext16 off).toInt = off.toInt :=
  BitVec.toInt_signExtend_of_le hn

/-- The address an access is made at, for an offset of any width up to a word's. -/
theorem address_toNat {n : Nat} (hn : n ≤ 16) (base : Word) (off : BitVec n) :
    ((AddrMode.indexed.address base (sext16 off)).toNat : Int) = (base.toNat + off.toInt) % 65536 ∧
    ((AddrMode.postincrement.address base (sext16 off)).toNat : Int) = (base.toNat + off.toInt) % 65536 ∧
    ((AddrMode.predecrement.address base (sext16 off)).toNat : Int) = (base.toNat - off.toInt) % 65536 := by
  rw [← toInt_sext16 hn off]
  exact ⟨toNat_add_word _ _, toNat_add_word _ _, toNat_sub_word _ _⟩

/-- Settles O31: an offset of 3 bits and one of 10 bits. -/
theorem effectiveAddress : Obligations.EffectiveAddress :=
  ⟨fun base off => address_toNat (by decide) base off, fun base off => address_toNat (by decide) base off⟩

/-! What writes to distinct registers and distinct bytes leave behind. -/

theorem State.reg_putRegs_of_mem (s : State) {l : List (RegNum × Word)} (hl : (l.map Prod.fst).Nodup)
    {p : RegNum × Word} (hp : p ∈ l) : (s.putRegs l).reg p.1 = p.2 := by
  induction l generalizing s with
  | nil => cases hp
  | cons q l ih =>
    obtain ⟨fresh, rest⟩ := List.nodup_cons.1 hl
    rcases List.mem_cons.1 hp with rfl | hp
    · have others : ∀ r ∈ l, p.1 ≠ r.1 := fun r hr e => fresh (e ▸ List.mem_map_of_mem hr)
      exact (State.reg_putRegs_of_ne (s.setReg p.1 p.2) others).trans ((s.reg_setReg p.1 p.1 p.2).trans (if_pos rfl))
    · exact ih (s.setReg q.1 q.2) rest hp

theorem State.dataByte_putBytes_of_ne {a : DataAddr} (s : State) {l : List (DataAddr × Byte)}
    (h : ∀ p ∈ l, a ≠ p.1) : (s.putBytes l).dataByte a = s.dataByte a := by
  induction l generalizing s with
  | nil => rfl
  | cons p l ih =>
    obtain ⟨first, rest⟩ := List.forall_mem_cons.1 h
    exact (ih (s.setDataByte p.1 p.2) rest).trans ((s.dataByte_setDataByte p.1 a p.2).trans (if_neg first))

theorem State.dataByte_putBytes_of_mem (s : State) {l : List (DataAddr × Byte)} (hl : (l.map Prod.fst).Nodup)
    {p : DataAddr × Byte} (hp : p ∈ l) : (s.putBytes l).dataByte p.1 = some p.2 := by
  induction l generalizing s with
  | nil => cases hp
  | cons q l ih =>
    obtain ⟨fresh, rest⟩ := List.nodup_cons.1 hl
    rcases List.mem_cons.1 hp with rfl | hp
    · have others : ∀ r ∈ l, p.1 ≠ r.1 := fun r hr e => fresh (e ▸ List.mem_map_of_mem hr)
      exact (State.dataByte_putBytes_of_ne (s.setDataByte p.1 p.2) others).trans
        ((s.dataByte_setDataByte p.1 p.1 p.2).trans (if_pos rfl))
    · exact ih (s.setDataByte q.1 q.2) rest hp

section
variable (s : State) {regs : List (RegNum × Word)} {bytes : List (DataAddr × Byte)} (c : Bool) (pc : CodeAddr)

/-- A quantity that no register write and no byte write changes. -/
theorem State.writes_keeps {α : Type} {g : State → α} (hr : ∀ s n v, g (s.setReg n v) = g s)
    (hb : ∀ s a b, g (s.setDataByte a b) = g s) : g ((s.putBytes bytes).putRegs regs) = g s :=
  (State.putRegs_keeps hr _ regs).trans (State.putBytes_keeps hb s bytes)

theorem State.becomes_writes (hr : (regs.map Prod.fst).Nodup) (hb : (bytes.map Prod.fst).Nodup) :
    s.Becomes ((((s.putBytes bytes).putRegs regs).setCarry c).goto pc) regs c pc bytes := by
  refine ⟨fun p hp => ?written, fun n hn => ?kept, rfl, rfl, ?status, fun p hp => ?stored, fun a ha => ?memory,
    fun a => ?code, ?config⟩
  case written => exact State.reg_putRegs_of_mem _ hr hp
  case kept =>
    have other : ∀ p ∈ regs, n ≠ p.1 := fun p hp e => hn (e ▸ List.mem_map_of_mem hp)
    exact (State.reg_putRegs_of_ne _ other).trans
      (State.putBytes_keeps (g := fun u => u.reg n) (fun _ _ _ => rfl) s bytes)
  case status => exact s.writes_keeps (g := State.statusRest) (fun _ _ _ => rfl) (fun _ _ _ => rfl)
  case stored =>
    exact (State.putRegs_keeps (g := fun u => u.dataByte p.1) (fun _ _ _ => rfl) _ regs).trans
      (s.dataByte_putBytes_of_mem hb hp)
  case memory =>
    have other : ∀ p ∈ bytes, a ≠ p.1 := fun p hp e => ha (e ▸ List.mem_map_of_mem hp)
    exact (State.putRegs_keeps (g := fun u => u.dataByte a) (fun _ _ _ => rfl) _ regs).trans
      (s.dataByte_putBytes_of_ne other)
  case code => exact s.writes_keeps (g := fun u => u.codeWord a) (fun _ _ _ => rfl) (fun _ _ _ => rfl)
  case config => exact s.writes_keeps (g := State.config) (fun _ _ _ => rfl) (fun _ _ _ => rfl)

theorem State.quiet_writes : s.Quiet ((((s.putBytes bytes).putRegs regs).setCarry c).goto pc) :=
  ⟨s.writes_keeps (g := State.run) (fun _ _ _ => rfl) (fun _ _ _ => rfl),
    s.writes_keeps (g := State.stdout) (fun _ _ _ => rfl) (fun _ _ _ => rfl),
    s.writes_keeps (g := State.stderr) (fun _ _ _ => rfl) (fun _ _ _ => rfl),
    s.writes_keeps (g := State.busErrors) (fun _ _ _ => rfl) (fun _ _ _ => rfl)⟩

theorem State.writes_carry : ((s.putBytes bytes).putRegs regs).carry = s.carry :=
  s.writes_keeps (fun _ _ _ => rfl) (fun _ _ _ => rfl)

theorem State.writes_pc : ((s.putBytes bytes).putRegs regs).pc = s.pc :=
  s.writes_keeps (fun _ _ _ => rfl) (fun _ _ _ => rfl)

theorem State.writes_eq : (s.putBytes bytes).putRegs regs =
    (((s.putBytes bytes).putRegs regs).setCarry s.carry).goto s.pc := by
  rw [← s.writes_carry (regs := regs) (bytes := bytes), ← s.writes_pc (regs := regs) (bytes := bytes)]
  rfl

/-- An instruction that writes registers and bytes and then goes on to the next one. -/
theorem advance_completes {r : Result} {len : Nat} (hr : (regs.map Prod.fst).Nodup) (hb : (bytes.map Prod.fst).Nodup)
    (h : r = .next (((s.putBytes bytes).putRegs regs).advance len)) :
    ∃ t, r = .next t ∧ s.Becomes t regs s.carry (s.nextPc len) bytes ∧ s.Quiet t := by
  rw [State.writes_eq] at h
  exact ⟨_, h, s.becomes_writes s.carry _ hr hb, s.quiet_writes s.carry _⟩

end

/-! Writes to data memory (R53). -/

/-- The bytes that a write of either width stores. -/
def Width.stored (w : Width) (ea : DataAddr) (v : Word) : List (DataAddr × Byte) :=
  match w with
  | .byte => [(ea, v.extractLsb' 0 8)]
  | .word => [(ea, v.extractLsb' 0 8), (ea + 1, v.extractLsb' 8 8)]

theorem State.storeBytes_eq (s : State) (w : Width) (ea : DataAddr) (v : Word) :
    s.storeBytes w ea v = s.putBytes (w.stored ea v) := by
  cases w <;> rfl

/-- The second address of a word is never the first. -/
theorem Width.stored_nodup (w : Width) (ea : DataAddr) (v : Word) : ((w.stored ea v).map Prod.fst).Nodup := by
  cases w <;> simp [Width.stored]

theorem State.memWrite_missing {s : State} {w : Width} {ea a : DataAddr} (v : Word) (h : s.firstMissing w ea = some a) :
    s.memWrite w ea v = .busError a := by
  simp only [State.memWrite, h]

theorem State.memWrite_present {s : State} {w : Width} {ea : DataAddr} (v : Word) (h : s.firstMissing w ea = none) :
    s.memWrite w ea v = .done (s.putBytes (w.stored ea v)) := by
  simp only [State.memWrite, h, State.storeBytes_eq]

theorem State.memWrite_completes {s : State} {w : Width} {ea : DataAddr} (v : Word) (h : s.firstMissing w ea = none) :
    ∃ t, s.memWrite w ea v = .done t ∧ s.Becomes t [] s.carry s.pc (w.stored ea v) ∧ s.Quiet t :=
  ⟨_, (State.memWrite_present v h).trans (congrArg Access.done (s.writes_eq (regs := []))),
    s.becomes_writes s.carry s.pc List.nodup_nil (w.stored_nodup ea v), s.quiet_writes s.carry s.pc⟩

/-- Settles O29: the first missing byte of either width, then the two widths. -/
theorem memWrite : Obligations.MemWrite := by
  refine ⟨fun s w ea v missing => ?_, fun s ea v present missing => ?_, fun s ea v present => ?_,
    fun s ea v present0 present1 => ?_⟩
  · exact State.memWrite_missing v (State.firstMissing_first w (State.hasDataByte_false.2 missing))
  · exact State.memWrite_missing v
      (State.firstMissing_second (State.hasDataByte_true.2 present) (State.hasDataByte_false.2 missing))
  · exact State.memWrite_completes v (State.firstMissing_byte.2 present)
  · exact State.memWrite_completes v (State.firstMissing_word.2 ⟨present0, present1⟩)

/-! Loads. -/

theorem State.memRead_word_ofNat {s : State} {ea : DataAddr} {lo hi : Byte} (h0 : s.Holds ea lo)
    (h1 : s.Holds (ea + 1) hi) : s.memRead .word ea = .done (BitVec.ofNat 16 (lo.toNat + 256 * hi.toNat)) := by
  rw [State.memRead_word h0 h1, ← toNat_bytePair, BitVec.ofNat_toNat, BitVec.setWidth_eq]

/-- The write of the base register, in the modes that have one. -/
def AddrMode.baseWrite (m : AddrMode) (base : RegNum) (ea : DataAddr) : List (RegNum × Word) :=
  if m.updates then [(base, ea)] else []

theorem updateBase_eq (m : AddrMode) (base : RegNum) (ea : DataAddr) (s : State) :
    updateBase m base ea s = s.putRegs (m.baseWrite base ea) := by
  unfold updateBase AddrMode.baseWrite
  split <;> rfl

theorem State.putRegs_concat (s : State) (l : List (RegNum × Word)) (d : RegNum) (v : Word) :
    (s.putRegs l).setReg d v = s.putRegs (l ++ [(d, v)]) := by
  simp only [State.putRegs, List.foldl_concat]

section
variable {s : State} {len : Nat} {w : Width} {m : AddrMode} {d a : RegNum} {off : Word}

/-- Past its checks, a load is what it does with the end of its read. -/
theorem load_eq (h : ∀ n ∈ [d, a], s.hasReg n = true) (apart : (m.updates && d == a) = false) :
    load len w m d a off s = (s.memRead w (m.address (s.reg a) off)).finish s fun v =>
      .next (((updateBase m a (m.address (s.reg a) off) s).setReg d v).advance len) := by
  rw [load, checkRegs_present _ h, apart]
  rfl

theorem baseWrite_concat_nodup (ea : DataAddr) (v : Word) (apart : (m.updates && d == a) = false) :
    ((m.baseWrite a ea ++ [(d, v)]).map Prod.fst).Nodup := by
  cases m with
  | indexed => exact List.nodup_singleton d
  | postincrement | predecrement =>
    have distinct : a ≠ d := (beq_eq_false_iff_ne.1 apart).symm
    exact List.nodup_cons.2 ⟨fun same => distinct (List.mem_singleton.1 same), List.nodup_singleton d⟩

theorem load_completes {v : Word} (h : ∀ n ∈ [d, a], s.hasReg n = true) (apart : (m.updates && d == a) = false)
    (read : s.memRead w (m.address (s.reg a) off) = .done v) :
    ∃ t, load len w m d a off s = .next t ∧
      s.Becomes t (m.baseWrite a (m.address (s.reg a) off) ++ [(d, v)]) s.carry (s.nextPc len) [] ∧ s.Quiet t := by
  refine advance_completes s (baseWrite_concat_nodup _ v apart) List.nodup_nil ?_
  rw [load_eq h apart, read, updateBase_eq, Access.finish, State.putRegs_concat]
  rfl

end

/-- The overlap check of a mode that updates its base passes for two registers. -/
theorem beq_false {d a : RegNum} (h : d ≠ a) : (d == a) = false := beq_eq_false_iff_ne.2 h

/-- Settles O42: the byte and the word, 16-bit forms before 32-bit forms. -/
theorem loadIndexed : Obligations.LoadIndexed :=
  ⟨fun _ _ _ _ _ h b => load_completes h rfl (State.memRead_byte_ofNat b rfl),
    fun _ _ _ _ _ _ h b0 b1 => load_completes h rfl (State.memRead_word_ofNat b0 b1),
    fun _ _ _ _ _ h b => load_completes h rfl (State.memRead_byte_ofNat b rfl),
    fun _ _ _ _ _ _ h b0 b1 => load_completes h rfl (State.memRead_word_ofNat b0 b1)⟩

/-- Settles O43: the base is written too, and the two registers are distinct. -/
theorem loadPostincrement : Obligations.LoadPostincrement :=
  ⟨fun _ _ _ _ _ h apart b => load_completes h (beq_false apart) (State.memRead_byte_ofNat b rfl),
    fun _ _ _ _ _ _ h apart b0 b1 => load_completes h (beq_false apart) (State.memRead_word_ofNat b0 b1),
    fun _ _ _ _ _ h apart b => load_completes h (beq_false apart) (State.memRead_byte_ofNat b rfl),
    fun _ _ _ _ _ _ h apart b0 b1 => load_completes h (beq_false apart) (State.memRead_word_ofNat b0 b1)⟩

/-- Settles O44: as with postincrement, at the other address. -/
theorem loadPredecrement : Obligations.LoadPredecrement :=
  ⟨fun _ _ _ _ _ h apart b => load_completes h (beq_false apart) (State.memRead_byte_ofNat b rfl),
    fun _ _ _ _ _ _ h apart b0 b1 => load_completes h (beq_false apart) (State.memRead_word_ofNat b0 b1),
    fun _ _ _ _ _ h apart b => load_completes h (beq_false apart) (State.memRead_byte_ofNat b rfl),
    fun _ _ _ _ _ _ h apart b0 b1 => load_completes h (beq_false apart) (State.memRead_word_ofNat b0 b1)⟩

/-! Stores. -/

section
variable {s : State} {len : Nat} {w : Width} {m : AddrMode} {d a : RegNum} {off : Word}

/-- Past its checks, a store is what it does with the end of its write. -/
theorem store_eq (h : ∀ n ∈ [d, a], s.hasReg n = true) (apart : (m == .predecrement && d == a) = false) :
    store len w m d off a s = (s.memWrite w (m.address (s.reg d) off) (s.reg a)).finish s fun t =>
      .next ((updateBase m d (m.address (s.reg d) off) t).advance len) := by
  rw [store, checkRegs_present _ h, apart]
  rfl

theorem baseWrite_nodup (m : AddrMode) (d : RegNum) (ea : DataAddr) : ((m.baseWrite d ea).map Prod.fst).Nodup := by
  cases m with
  | indexed => exact List.nodup_nil
  | postincrement | predecrement => exact List.nodup_singleton d

/-- The stored value is that of the data register before the base is written. -/
theorem store_completes (h : ∀ n ∈ [d, a], s.hasReg n = true) (apart : (m == .predecrement && d == a) = false)
    (present : s.firstMissing w (m.address (s.reg d) off) = none) :
    ∃ t, store len w m d off a s = .next t ∧
      s.Becomes t (m.baseWrite d (m.address (s.reg d) off)) s.carry (s.nextPc len)
        (w.stored (m.address (s.reg d) off) (s.reg a)) ∧ s.Quiet t := by
  refine advance_completes s (baseWrite_nodup m d _) (w.stored_nodup _ _) ?_
  rw [store_eq h apart, State.memWrite_present _ present, Access.finish, updateBase_eq]

end

/-- Settles O45: the byte and the word, 16-bit forms before 32-bit forms. -/
theorem storeIndexed : Obligations.StoreIndexed :=
  ⟨fun _ _ _ _ h b => store_completes h rfl (State.firstMissing_byte.2 b),
    fun _ _ _ _ h b0 b1 => store_completes h rfl (State.firstMissing_word.2 ⟨b0, b1⟩),
    fun _ _ _ _ h b => store_completes h rfl (State.firstMissing_byte.2 b),
    fun _ _ _ _ h b0 b1 => store_completes h rfl (State.firstMissing_word.2 ⟨b0, b1⟩)⟩

/-- Settles O46: the base and the data register may be one. -/
theorem storePostincrement : Obligations.StorePostincrement :=
  ⟨fun _ _ _ _ h b => store_completes h rfl (State.firstMissing_byte.2 b),
    fun _ _ _ _ h b0 b1 => store_completes h rfl (State.firstMissing_word.2 ⟨b0, b1⟩),
    fun _ _ _ _ h b => store_completes h rfl (State.firstMissing_byte.2 b),
    fun _ _ _ _ h b0 b1 => store_completes h rfl (State.firstMissing_word.2 ⟨b0, b1⟩)⟩

/-- Settles O47: here the two registers are distinct. -/
theorem storePredecrement : Obligations.StorePredecrement :=
  ⟨fun _ _ _ _ h apart b => store_completes h (beq_false apart) (State.firstMissing_byte.2 b),
    fun _ _ _ _ h apart b0 b1 => store_completes h (beq_false apart) (State.firstMissing_word.2 ⟨b0, b1⟩),
    fun _ _ _ _ h apart b => store_completes h (beq_false apart) (State.firstMissing_byte.2 b),
    fun _ _ _ _ h apart b0 b1 => store_completes h (beq_false apart) (State.firstMissing_word.2 ⟨b0, b1⟩)⟩

end Sys2Proof.Machine
end

section
/-!
PROOFS. The 24 loads and stores as one (R152, R282): each is a load or a store of its data access, and so are its
overlap, its bus error and its read of a byte that holds no value.
-/

namespace Sys2Proof.Machine

/-! Every data access. -/

theorem exec_load {i : Instr} {x : DataAccess} (s : State) (hx : i.access = some x) (hl : x.store = false) :
    exec i s = load i.words x.width x.mode x.data x.base x.off s := by
  cases i with
  | ldb16 | ldw16 | ldbPost16 | ldwPost16 | ldbPre16 | ldwPre16 | ldb32 | ldw32 | ldbPost32 | ldwPost32 | ldbPre32
  | ldwPre32 => cases hx; rfl
  | stb16 | stw16 | stbPost16 | stwPost16 | stbPre16 | stwPre16 | stb32 | stw32 | stbPost32 | stwPost32 | stbPre32
  | stwPre32 => cases hx; cases hl
  | _ => cases hx

theorem exec_store {i : Instr} {x : DataAccess} (s : State) (hx : i.access = some x) (hl : x.store = true) :
    exec i s = store i.words x.width x.mode x.base x.off x.data s := by
  cases i with
  | ldb16 | ldw16 | ldbPost16 | ldwPost16 | ldbPre16 | ldwPre16 | ldb32 | ldw32 | ldbPost32 | ldwPost32 | ldbPre32
  | ldwPre32 => cases hx; cases hl
  | stb16 | stw16 | stbPost16 | stwPost16 | stbPre16 | stwPre16 | stb32 | stw32 | stbPost32 | stwPost32 | stbPre32
  | stwPre32 => cases hx; rfl
  | _ => cases hx

/-- The registers that a load or store names are its data and its base register. -/
theorem mem_named_of_access {i : Instr} {x : DataAccess} (hx : i.access = some x) :
    x.data ∈ i.named ∧ x.base ∈ i.named := by
  cases i with
  | ldb16 | ldw16 | ldbPost16 | ldwPost16 | ldbPre16 | ldwPre16 | ldb32 | ldw32 | ldbPost32 | ldwPost32 | ldbPre32
  | ldwPre32 =>
    cases hx
    exact ⟨.head _, .tail _ (.head _)⟩
  | stb16 | stw16 | stbPost16 | stwPost16 | stbPre16 | stwPre16 | stb32 | stw32 | stbPost32 | stwPost32 | stbPre32
  | stwPre32 =>
    cases hx
    exact ⟨.tail _ (.head _), .head _⟩
  | _ => cases hx

/-- The overlap of a load and of a store, as their meanings check it. -/
theorem overlaps_of_load {x : DataAccess} (hl : x.store = false) :
    x.overlaps = (x.mode.updates && x.data == x.base) := by
  rw [DataAccess.overlaps, hl, Bool.and_comm]
  rfl

theorem overlaps_of_store {x : DataAccess} (hl : x.store = true) :
    x.overlaps = (x.mode == .predecrement && x.base == x.data) := by
  rw [DataAccess.overlaps, hl, Bool.and_comm, Bool.beq_comm (a := x.data)]
  rfl

section
variable {i : Instr} {x : DataAccess} {s : State} (hx : i.access = some x) (named : s.HasNamed i)
include hx named

theorem hasReg_data_base : ∀ n ∈ [x.data, x.base], s.hasReg n = true := by
  obtain ⟨data, base⟩ := mem_named_of_access hx
  simpa using ⟨named _ data, named _ base⟩

theorem hasReg_base_data : ∀ n ∈ [x.base, x.data], s.hasReg n = true := by
  obtain ⟨data, base⟩ := mem_named_of_access hx
  simpa using ⟨named _ base, named _ data⟩

/-! Overlaps (U1, U2, U3). -/

theorem exec_access_overlap (overlap : x.overlaps = true) : exec i s = .fault .unspecifiedOverlap := by
  cases hl : x.store with
  | false =>
    rw [overlaps_of_load hl] at overlap
    rw [exec_load s hx hl, load, checkRegs_present _ (hasReg_data_base hx named), if_pos overlap]
  | true =>
    rw [overlaps_of_store hl] at overlap
    rw [exec_store s hx hl, store, checkRegs_present _ (hasReg_base_data hx named), if_pos overlap]

/-! The ends of the access. -/

section
variable (apart : x.overlaps = false)
include apart

theorem exec_load_eq (hl : x.store = false) :
    ∃ k, exec i s = (s.memRead x.width (s.accessAddress x)).finish s k := by
  rw [overlaps_of_load hl] at apart
  exact ⟨_, (exec_load s hx hl).trans (load_eq (hasReg_data_base hx named) apart)⟩

theorem exec_store_eq (hl : x.store = true) :
    ∃ k, exec i s = (s.memWrite x.width (s.accessAddress x) (s.reg x.data)).finish s k := by
  rw [overlaps_of_store hl] at apart
  exact ⟨_, (exec_store s hx hl).trans (store_eq (hasReg_base_data hx named) apart)⟩

/-- Whether it reads or writes, an access to a missing byte takes its bus error and does nothing else. -/
theorem exec_access_missing {a : DataAddr} (missing : s.firstMissing x.width (s.accessAddress x) = some a) :
    ∃ t, exec i s = .next t ∧ s.TookBusError t (.data a) := by
  refine ⟨s.takeBusError (.data a), ?_, s.tookBusError _⟩
  cases hl : x.store with
  | false =>
    obtain ⟨k, he⟩ := exec_load_eq hx named apart hl
    rw [he, State.memRead_missing missing, Access.finish]
  | true =>
    obtain ⟨k, he⟩ := exec_store_eq hx named apart hl
    rw [he, State.memWrite_missing _ missing, Access.finish]

theorem exec_load_unwritten {a : DataAddr} (hl : x.store = false)
    (read : s.memRead x.width (s.accessAddress x) = .unwritten a) : exec i s = .fault (.unwrittenRead a) := by
  obtain ⟨k, he⟩ := exec_load_eq hx named apart hl
  rw [he, read, Access.finish]

end

end

theorem State.memRead_first_unwritten {s : State} {w : Width} {ea : DataAddr} (h : s.firstMissing w ea = none)
    (h0 : s.dataByte ea = none) : s.memRead w ea = .unwritten ea := by
  simp only [State.memRead, h, h0]

theorem State.memRead_second_unwritten {s : State} {ea : DataAddr} {lo : Byte} (h0 : s.Holds ea lo)
    (present : s.hasDataByte (ea + 1) = true) (h1 : s.dataByte (ea + 1) = none) :
    s.memRead .word ea = .unwritten (ea + 1) := by
  obtain ⟨present0, value0⟩ := h0
  simp only [State.memRead, State.firstMissing_word.2 ⟨present0, present⟩, value0, h1]

/-- Settles O25: only a data access logs in an execution; and the first missing byte is the one at the address, or the
one after it. -/
theorem dataBusError : Obligations.DataBusError := by
  refine ⟨?only, ?first, ?second⟩
  case only =>
    intro i s t h logged
    obtain ⟨x, a, access, touched, missing, -⟩ := exec_logs h logged
    exact ⟨x, access, a, touched, State.hasDataByte_false.1 missing⟩
  case first =>
    intro i x s access named apart missing
    exact exec_access_missing access named apart (State.firstMissing_first _ (State.hasDataByte_false.2 missing))
  case second =>
    intro i x s access named apart width present missing
    have second := State.firstMissing_second (State.hasDataByte_true.2 present) (State.hasDataByte_false.2 missing)
    exact exec_access_missing access named apart (width ▸ second)

/-- Settles O26: the read ends at the first touched byte, or at the second. -/
theorem unwrittenRead : Obligations.UnwrittenRead := by
  refine ⟨?first, ?second⟩
  case first =>
    intro i x s access isLoad named apart present empty
    exact exec_load_unwritten access named apart isLoad
      (State.memRead_first_unwritten (State.firstMissing_none.2 present) empty)
  case second =>
    intro i x s lo access isLoad named apart width present low empty
    exact exec_load_unwritten access named apart isLoad (width ▸ State.memRead_second_unwritten low present empty)

/-! Overlaps of the link register (U4, U5). -/

theorem jumpLink_overlap {s : State} {len : Nat} {d : RegNum} (h : ∀ n ∈ [d, d], s.hasReg n = true) :
    jumpLink len d d s = .fault .unspecifiedOverlap :=
  (checkRegs_present _ h).trans (if_pos rfl)

theorem jumpLongLink_overlap {s : State} {len : Nat} {d b : RegNum} (hp : s.HasPair d)
    (h : ∀ n ∈ [d, b], s.hasReg n = true) (hb : b = d ∨ b = d + 1) :
    jumpLongLink len d b s = .fault .unspecifiedOverlap :=
  (checkPair_checkRegs _ hp).trans ((checkRegs_present _ h).trans (if_pos hb))

/-- An even register number is not the last, so the number of R(d+1) does not wrap. -/
theorem eq_succ_of_toNat {d b : RegNum} (even : d.toNat % 2 = 0) (h : b.toNat = d.toNat + 1) : b = d + 1 := by
  bv_omega

/-- Settles O24: the loads and stores as data accesses, then JAL and JALL. -/
theorem unspecifiedOverlaps : Obligations.UnspecifiedOverlaps := by
  refine ⟨fun _ _ _ access named overlap => exec_access_overlap access named overlap,
    fun _ _ named => jumpLink_overlap named, fun _ _ named => jumpLink_overlap named, ?pair⟩
  case pair =>
    intro s d b hp named hb
    exact jumpLongLink_overlap hp named (hb.imp_right (eq_succ_of_toNat hp.1))

end Sys2Proof.Machine
end

section
/-!
PROOFS. The reach of the 16-bit forms (R22): their fields name R0 to R7, and a register from R8 up is unseen by them.
-/

namespace Sys2Proof.Machine

/-- The fields of a 16-bit instruction that name registers are 3 bits wide. -/
theorem named_of_short {i : Instr} (h : i.words = 1) : ∃ rs : List ShortReg, i.named = rs.map regOf := by
  cases i with
  | bra16 => exact ⟨[], rfl⟩
  | nop16 | movi16 | bal16 | jmp16 | rte16 => exact ⟨[_], rfl⟩
  | mov16 | addi16 | subi16 | asri16 | lsli16 | lsri16 | ldb16 | ldw16 | ldbPost16 | ldwPost16 | ldbPre16 | ldwPre16
  | stb16 | stw16 | stbPost16 | stwPost16 | stbPre16 | stwPre16 | beq16 | bne16 | blts16 | bles16 | bltu16 | bleu16
  | jal16 => exact ⟨[_, _], rfl⟩
  | add16 | sub16 | and16 | or16 | xor16 | asr16 | lsl16 | lsr16 | jeq16 | jne16 | jlts16 | jles16 | jltu16
  | jleu16 => exact ⟨[_, _, _], rfl⟩
  | _ => cases h

theorem regOf_toNat_le (r : ShortReg) : (regOf r).toNat ≤ 7 := by
  have small : r.toNat < 8 := r.isLt
  rw [regOf, BitVec.toNat_setWidth_of_le (by decide)]
  omega

theorem named_le_of_short {i : Instr} (h : i.words = 1) : ∀ n ∈ i.named, n.toNat ≤ 7 := by
  obtain ⟨rs, hrs⟩ := named_of_short h
  rw [hrs, List.forall_mem_map]
  exact fun r _ => regOf_toNat_le r

/-- The long jumps have two words. -/
theorem pair_of_short {i : Instr} (h : i.words = 1) : i.pair = none := by
  cases i with
  | jmpl32 | jall32 | jeql32 | jnel32 | jltsl32 | jlesl32 | jltul32 | jleul32 => cases h
  | _ => rfl

theorem unseen_setReg (n : RegNum) (v : Word) : Unseen (· ≠ n) (fun t => t.setReg n v) where
  config _ := rfl
  pc _ := rfl
  reg s m hm := (s.reg_setReg n m v).trans (if_neg hm)
  setReg s _ w hm := s.setReg_comm w v hm
  goto _ _ := rfl
  setRun _ _ := rfl
  putStdout _ _ := rfl
  putStderr _ _ := rfl
  takeBusError _ _ := rfl

/-- Settles O20: a register from R8 up is none of those that a 16-bit form names. -/
theorem shortFormsReach : Obligations.ShortFormsReach := by
  refine ⟨fun _ => named_le_of_short, ?unseen⟩
  case unseen =>
    intro i s n v short high
    have other : ∀ m ∈ i.named, m ≠ n := by
      rintro m hm rfl
      exact absurd (named_le_of_short short m hm) (by omega)
    have noPair : ∀ d, i.pair = some d → d + 1 ≠ n := by
      intro d hd
      rw [pair_of_short short] at hd
      cases hd
    exact (unseen_setReg n v).exec other noPair (fun _ => ⟨fun _ => rfl, fun _ _ _ => rfl⟩)
      (fun _ => ⟨fun _ => rfl, fun _ _ => rfl⟩)

end Sys2Proof.Machine
end
